-- ==== Sys2Proof/Word.lean ====
section
/-! DEFINITION. The words of the JG82: bytes, 16-bit operands, 24-bit addresses, 12-bit stack positions. -/

namespace Sys2Proof

/-- An 8-bit value: registers A, B, C and a byte of memory (`10_state.md` R11, `20_memory.md` R40). -/
abbrev Byte := BitVec 8

/-- A 16-bit operand: `i16` or the offset `a16` of a far jump (`30_encoding.md` R72, R75). -/
abbrev Word16 := BitVec 16

/-- A 24-bit value: registers S, D, P and every memory address (`10_state.md` R12, R13, R15, `20_memory.md` R40). -/
abbrev Addr := BitVec 24

/-- A 12-bit stack position: register T (`10_state.md` R14). -/
abbrev StackPos := BitVec 12

end Sys2Proof
end

