-- ==== Sys2Proof/Syntax.lean ====
section
/-! DEFINITION. The instructions of the JG82: one constructor per form of spec/opcode_table.json (162 forms on 225
opcode bytes, and the table's 31 UNDEFINED bytes as one constructor that carries the byte). Registers named by a
mnemonic or by its operand `a`, `b`, `c` are part of the form (`30_encoding.md` R79). -/

namespace Sys2Proof

/-- An instruction with its operand (`30_encoding.md` R71, R80). `i8`, `i16`, `i24` are immediates, `a8` a zero-page
address, `off` the signed offset of a near or far jump, `a24` an absolute address, `ib` a bit number 0 to 7, `n` a
shift count 1 to 8. -/
inductive Instr where
  -- 40_nop_load_set_store.md: NOP, load, set, store
  /-- `NOP` (`$00`): "No operator." Does nothing but advance P. R100 -/
  | nop
  /-- `LDA` (`$01`): load A with the memory byte at address S. R102 -/
  | lda
  /-- `LDA a8` (`$02`): load A with the zero-page byte at address a8. R103 -/
  | ldaA8 (a8 : Byte)
  /-- `LDB` (`$03`): load B with the memory byte at address S. R104 -/
  | ldb
  /-- `LDB a8` (`$04`): load B with the zero-page byte at address a8. R105 -/
  | ldbA8 (a8 : Byte)
  /-- `LDC` (`$05`): load C with the memory byte at address S. R106 -/
  | ldc
  /-- `LDC a8` (`$06`): load C with the zero-page byte at address a8. R107 -/
  | ldcA8 (a8 : Byte)
  /-- `SETA i8` (`$07`): set A to an 8-bit immediate. R109 -/
  | setaI8 (i8 : Byte)
  /-- `SETA b` (`$08`): copy B into A. R110 -/
  | setaB
  /-- `SETA c` (`$09`): copy C into A. R111 -/
  | setaC
  /-- `SETB i8` (`$0A`): set B to an 8-bit immediate. R112 -/
  | setbI8 (i8 : Byte)
  /-- `SETB a` (`$0B`): copy A into B. R113 -/
  | setbA
  /-- `SETB c` (`$0C`): copy C into B. R114 -/
  | setbC
  /-- `SETC i8` (`$0D`): set C to an 8-bit immediate. R115 -/
  | setcI8 (i8 : Byte)
  /-- `SETC a` (`$0E`): copy A into C. R116 -/
  | setcA
  /-- `SETC b` (`$0F`): copy B into C. R117 -/
  | setcB
  /-- `SETS i24` (`$10`): set S to a 24-bit immediate. R118 -/
  | setsI24 (i24 : Addr)
  /-- `SETS i16` (`$11`): set S to a 16-bit immediate, zero-extended. R119 -/
  | setsI16 (i16 : Word16)
  /-- `SETS i8` (`$12`): set S to an 8-bit immediate, zero-extended. R120 -/
  | setsI8 (i8 : Byte)
  /-- `SETD i24` (`$13`): set D to a 24-bit immediate. R121 -/
  | setdI24 (i24 : Addr)
  /-- `SETD i16` (`$14`): set D to a 16-bit immediate, zero-extended. R122 -/
  | setdI16 (i16 : Word16)
  /-- `SETD i8` (`$15`): set D to an 8-bit immediate, zero-extended. R123 -/
  | setdI8 (i8 : Byte)
  /-- `STA` (`$16`): store A to the memory byte at address D. R125 -/
  | sta
  /-- `STA a8` (`$17`): store A to the zero-page byte at address a8. R126 -/
  | staA8 (a8 : Byte)
  /-- `STB` (`$18`): store B to the memory byte at address D. R127 -/
  | stb
  /-- `STB a8` (`$19`): store B to the zero-page byte at address a8. R128 -/
  | stbA8 (a8 : Byte)
  /-- `STC` (`$1A`): store C to the memory byte at address D. R129 -/
  | stc
  /-- `STC a8` (`$1B`): store C to the zero-page byte at address a8. R130 -/
  | stcA8 (a8 : Byte)
  -- 41_arith.md: integer arithmetic
  /-- `INCA` (`$1C`): increment A by 1. R142 -/
  | inca
  /-- `INCB` (`$1D`): increment B by 1. R143 -/
  | incb
  /-- `INCC` (`$1E`): increment C by 1. R144 -/
  | incc
  /-- `INCS` (`$1F`): increment S by 1. R145 -/
  | incs
  /-- `INCD` (`$20`): increment D by 1. R146 -/
  | incd
  /-- `DECA` (`$21`): decrement A by 1. R148 -/
  | deca
  /-- `DECB` (`$22`): decrement B by 1. R149 -/
  | decb
  /-- `DECC` (`$23`): decrement C by 1. R150 -/
  | decc
  /-- `DECS` (`$24`): decrement S by 1. R151 -/
  | decs
  /-- `DECD` (`$25`): decrement D by 1. R152 -/
  | decd
  /-- `ADDA i8` (`$26`): add an 8-bit immediate to A. R154 -/
  | addaI8 (i8 : Byte)
  /-- `ADDA b` (`$27`): add register B to A. R155 -/
  | addaB
  /-- `ADDA c` (`$28`): add register C to A. R156 -/
  | addaC
  /-- `ADDB i8` (`$29`): add an 8-bit immediate to B. R157 -/
  | addbI8 (i8 : Byte)
  /-- `ADDB a` (`$2A`): add register A to B. R158 -/
  | addbA
  /-- `ADDB c` (`$2B`): add register C to B. R159 -/
  | addbC
  /-- `ADDC i8` (`$2C`): add an 8-bit immediate to C. R160 -/
  | addcI8 (i8 : Byte)
  /-- `ADDC a` (`$2D`): add register A to C. R161 -/
  | addcA
  /-- `ADDC b` (`$2E`): add register B to C. R162 -/
  | addcB
  /-- `ADDS i16` (`$2F`): add a 16-bit immediate to S. R163 -/
  | addsI16 (i16 : Word16)
  /-- `ADDS i8` (`$30`): add an 8-bit immediate to S. R164 -/
  | addsI8 (i8 : Byte)
  /-- `ADDS a` (`$31`): add register A to S. R165 -/
  | addsA
  /-- `ADDD i16` (`$32`): add a 16-bit immediate to D. R166 -/
  | adddI16 (i16 : Word16)
  /-- `ADDD i8` (`$33`): add an 8-bit immediate to D. R167 -/
  | adddI8 (i8 : Byte)
  /-- `ADDD a` (`$34`): add register A to D. R168 -/
  | adddA
  /-- `SUBA i8` (`$35`): subtract an 8-bit immediate from A. R170 -/
  | subaI8 (i8 : Byte)
  /-- `SUBA b` (`$36`): subtract register B from A. R171 -/
  | subaB
  /-- `SUBA c` (`$37`): subtract register C from A. R172 -/
  | subaC
  /-- `SUBB i8` (`$38`): subtract an 8-bit immediate from B. R173 -/
  | subbI8 (i8 : Byte)
  /-- `SUBB a` (`$39`): subtract register A from B. R174 -/
  | subbA
  /-- `SUBB c` (`$3A`): subtract register C from B. R175 -/
  | subbC
  /-- `SUBC i8` (`$3B`): subtract an 8-bit immediate from C. R176 -/
  | subcI8 (i8 : Byte)
  /-- `SUBC a` (`$3C`): subtract register A from C. R177 -/
  | subcA
  /-- `SUBC b` (`$3D`): subtract register B from C. R178 -/
  | subcB
  /-- `SUBS i16` (`$3E`): subtract a 16-bit immediate from S. R179 -/
  | subsI16 (i16 : Word16)
  /-- `SUBS i8` (`$3F`): subtract an 8-bit immediate from S. R180 -/
  | subsI8 (i8 : Byte)
  /-- `SUBS a` (`$40`): subtract register A from S. R181 -/
  | subsA
  /-- `SUBD i16` (`$41`): subtract a 16-bit immediate from D. R182 -/
  | subdI16 (i16 : Word16)
  /-- `SUBD i8` (`$42`): subtract an 8-bit immediate from D. R183 -/
  | subdI8 (i8 : Byte)
  /-- `SUBD a` (`$43`): subtract register A from D. R184 -/
  | subdA
  -- 42_logic_shift.md: bit test, logic, shift
  /-- `TSTA ib` (`$44..$4B`): test bit ib of A. R191 -/
  | tsta (ib : Nat)
  /-- `TSTB ib` (`$4C..$53`): test bit ib of B. R192 -/
  | tstb (ib : Nat)
  /-- `TSTC ib` (`$54..$5B`): test bit ib of C. R193 -/
  | tstc (ib : Nat)
  /-- `ANDA i8` (`$5C`): bitwise AND of A with an 8-bit immediate. R195 -/
  | andaI8 (i8 : Byte)
  /-- `ANDA b` (`$5D`): bitwise AND of A with register B. R196 -/
  | andaB
  /-- `ANDA c` (`$5E`): bitwise AND of A with register C. R197 -/
  | andaC
  /-- `ANDB i8` (`$5F`): bitwise AND of B with an 8-bit immediate. R198 -/
  | andbI8 (i8 : Byte)
  /-- `ANDB a` (`$60`): bitwise AND of B with register A. R199 -/
  | andbA
  /-- `ANDB c` (`$61`): bitwise AND of B with register C. R200 -/
  | andbC
  /-- `ANDC i8` (`$62`): bitwise AND of C with an 8-bit immediate. R201 -/
  | andcI8 (i8 : Byte)
  /-- `ANDC a` (`$63`): bitwise AND of C with register A. R202 -/
  | andcA
  /-- `ANDC b` (`$64`): bitwise AND of C with register B. R203 -/
  | andcB
  /-- `ORA i8` (`$65`): bitwise inclusive OR of A with an 8-bit immediate. R205 -/
  | oraI8 (i8 : Byte)
  /-- `ORA b` (`$66`): bitwise inclusive OR of A with register B. R206 -/
  | oraB
  /-- `ORA c` (`$67`): bitwise inclusive OR of A with register C. R207 -/
  | oraC
  /-- `ORB i8` (`$68`): bitwise inclusive OR of B with an 8-bit immediate. R208 -/
  | orbI8 (i8 : Byte)
  /-- `ORB a` (`$69`): bitwise inclusive OR of B with register A. R209 -/
  | orbA
  /-- `ORB c` (`$6A`): bitwise inclusive OR of B with register C. R210 -/
  | orbC
  /-- `ORC i8` (`$6B`): bitwise inclusive OR of C with an 8-bit immediate. R211 -/
  | orcI8 (i8 : Byte)
  /-- `ORC a` (`$6C`): bitwise inclusive OR of C with register A. R212 -/
  | orcA
  /-- `ORC b` (`$6D`): bitwise inclusive OR of C with register B. R213 -/
  | orcB
  /-- `XORA i8` (`$6E`): bitwise exclusive OR of A with an 8-bit immediate. R215 -/
  | xoraI8 (i8 : Byte)
  /-- `XORA b` (`$6F`): bitwise exclusive OR of A with register B. R216 -/
  | xoraB
  /-- `XORA c` (`$70`): bitwise exclusive OR of A with register C. R217 -/
  | xoraC
  /-- `XORB i8` (`$71`): bitwise exclusive OR of B with an 8-bit immediate. R218 -/
  | xorbI8 (i8 : Byte)
  /-- `XORB a` (`$72`): bitwise exclusive OR of B with register A. R219 -/
  | xorbA
  /-- `XORB c` (`$73`): bitwise exclusive OR of B with register C. R220 -/
  | xorbC
  /-- `XORC i8` (`$74`): bitwise exclusive OR of C with an 8-bit immediate. R221 -/
  | xorcI8 (i8 : Byte)
  /-- `XORC a` (`$75`): bitwise exclusive OR of C with register A. R222 -/
  | xorcA
  /-- `XORC b` (`$76`): bitwise exclusive OR of C with register B. R223 -/
  | xorcB
  /-- `NOTA` (`$77`): invert all bits of A. R225 -/
  | nota
  /-- `NOTB` (`$78`): invert all bits of B. R226 -/
  | notb
  /-- `NOTC` (`$79`): invert all bits of C. R227 -/
  | notc
  /-- `SHLA is` (`$7A..$81`): shift A left by is bits. R229 -/
  | shla (n : Nat)
  /-- `SHLB is` (`$82..$89`): shift B left by is bits. R230 -/
  | shlb (n : Nat)
  /-- `SHLC is` (`$8A..$91`): shift C left by is bits. R231 -/
  | shlc (n : Nat)
  /-- `SHRA is` (`$92..$99`): shift A right by is bits. R233 -/
  | shra (n : Nat)
  /-- `SHRB is` (`$9A..$A1`): shift B right by is bits. R234 -/
  | shrb (n : Nat)
  /-- `SHRC is` (`$A2..$A9`): shift C right by is bits. R235 -/
  | shrc (n : Nat)
  -- 43_compare_jump.md: compare and control transfer
  /-- `CMPA i8` (`$AA`): compare A with an 8-bit immediate. R241 -/
  | cmpaI8 (i8 : Byte)
  /-- `CMPA b` (`$AB`): compare A with register B. R242 -/
  | cmpaB
  /-- `CMPA c` (`$AC`): compare A with register C. R243 -/
  | cmpaC
  /-- `CMPB i8` (`$AD`): compare B with an 8-bit immediate. R244 -/
  | cmpbI8 (i8 : Byte)
  /-- `CMPB c` (`$AE`): compare B with register C. R245 -/
  | cmpbC
  /-- `CMPC i8` (`$AF`): compare C with an 8-bit immediate. R246 -/
  | cmpcI8 (i8 : Byte)
  /-- `JMP a8` (`$B0`): unconditional near jump. "Jump to near address (relative -128 to 127)". R249 -/
  | jmp (off : Byte)
  /-- `JMPF a16` (`$B1`): unconditional far jump. "Jump to far address (relative -32,768 to 32,767)". R250 -/
  | jmpf (off : Word16)
  /-- `JMPA a24` (`$B2`): unconditional absolute jump. "Jump to absolute address". R251 -/
  | jmpa (a24 : Addr)
  /-- `JZ a8` (`$B3`): near jump if the Zero flag is set. R252 -/
  | jz (off : Byte)
  /-- `JZF a16` (`$B4`): far jump if the Zero flag is set. R253 -/
  | jzf (off : Word16)
  /-- `JZA a24` (`$B5`): absolute jump if the Zero flag is set. R254 -/
  | jza (a24 : Addr)
  /-- `JNZ a8` (`$B6`): near jump if the Zero flag is not set. R255 -/
  | jnz (off : Byte)
  /-- `JNZF a16` (`$B7`): far jump if the Zero flag is not set. R256 -/
  | jnzf (off : Word16)
  /-- `JNZA a24` (`$B8`): absolute jump if the Zero flag is not set. R257 -/
  | jnza (a24 : Addr)
  /-- `JC a8` (`$B9`): near jump if the Carry flag is set. R258 -/
  | jc (off : Byte)
  /-- `JCF a16` (`$BA`): far jump if the Carry flag is set. R259 -/
  | jcf (off : Word16)
  /-- `JCA a24` (`$BB`): absolute jump if the Carry flag is set. R260 -/
  | jca (a24 : Addr)
  /-- `JNC a8` (`$BC`): near jump if the Carry flag is not set. R261 -/
  | jnc (off : Byte)
  /-- `JNCF a16` (`$BD`): far jump if the Carry flag is not set. R262 -/
  | jncf (off : Word16)
  /-- `JNCA a24` (`$BE`): absolute jump if the Carry flag is not set. R263 -/
  | jnca (a24 : Addr)
  /-- `JE a8` (`$BF`): near jump if the Equal flag is set. R264 -/
  | je (off : Byte)
  /-- `JEF a16` (`$C0`): far jump if the Equal flag is set. R265 -/
  | jef (off : Word16)
  /-- `JEA a24` (`$C1`): absolute jump if the Equal flag is set. R266 -/
  | jea (a24 : Addr)
  /-- `JNE a8` (`$C2`): near jump if the Equal flag is not set. R267 -/
  | jne (off : Byte)
  /-- `JNEF a16` (`$C3`): far jump if the Equal flag is not set. R268 -/
  | jnef (off : Word16)
  /-- `JNEA a24` (`$C4`): absolute jump if the Equal flag is not set. R269 -/
  | jnea (a24 : Addr)
  /-- `JG a8` (`$C5`): near jump if the Greater flag is set. R270 -/
  | jg (off : Byte)
  /-- `JGF a16` (`$C6`): far jump if the Greater flag is set. R271 -/
  | jgf (off : Word16)
  /-- `JGA a24` (`$C7`): absolute jump if the Greater flag is set. R272 -/
  | jga (a24 : Addr)
  /-- `JL a8` (`$C8`): near jump if the Greater flag and the Equal flag are both not set. R273 -/
  | jl (off : Byte)
  /-- `JLF a16` (`$C9`): far jump if the Greater flag and the Equal flag are both not set. R274 -/
  | jlf (off : Word16)
  /-- `JLA a24` (`$CA`): absolute jump if the Greater flag and the Equal flag are both not set. R275 -/
  | jla (a24 : Addr)
  /-- `JSR a24` (`$CB`): jump to sub-routine. "JSR will perform an absolute jump and save P into stack." (quick table: "Jump to sub-routine saving P to stack."). R276 -/
  | jsr (a24 : Addr)
  /-- `RET` (`$CC`): return from sub-routine. "RET will return from a sub-routine by getting the previous saved P from the stack and jumping to it. It is an absolute jump". R277 -/
  | ret
  -- 44_stack_flags_system.md: stack, flag clear, system
  /-- `PUSHA` (`$CD`): push A. "Push A to stack and increment stack pointer". R291 -/
  | pusha
  /-- `PUSHB` (`$CE`): push B. "Push B to stack and increment stack pointer". R292 -/
  | pushb
  /-- `PUSHC` (`$CF`): push C. "Push C to stack and increment stack pointer". R293 -/
  | pushc
  /-- `PUSHS` (`$D0`): push S. "Push S to stack and inc. stack p. by 3". R294 -/
  | pushs
  /-- `PUSHD` (`$D1`): push D. "Push D to stack and inc. stack p. by 3". R295 -/
  | pushd
  /-- `PUSHP` (`$D2`): push P. "Push P to stack and inc. stack pointer by 3". R296 -/
  | pushp
  /-- `PUSH i8` (`$D3`): push an 8-bit immediate. "Push an immediate value to stack". R297 -/
  | push (i8 : Byte)
  /-- `POPA` (`$D4`): pop into A. "Pop A from stack and decrement stack pointer". R299 -/
  | popa
  /-- `POPB` (`$D5`): pop into B. "Pop B from stack and decrement stack pointer". R300 -/
  | popb
  /-- `POPC` (`$D6`): pop into C. "Pop C from stack and decrement stack pointer". R301 -/
  | popc
  /-- `POPS` (`$D7`): pop into S. "Pop S from stack and decrement stack p. by 3". R302 -/
  | pops
  /-- `POPD` (`$D8`): pop into D. "Pop D from stack and decrement stack p. by 3". R303 -/
  | popd
  /-- `POP` (`$D9`): pop one byte to memory at D. "Pop an 8-bit value from stack and store in memory"; "POP will pop the value to memory address pointed by D. D will not be incremented". R304 -/
  | pop
  /-- `CLG` (`$DA`): Clear the Greater Flag. R306 -/
  | clg
  /-- `CLE` (`$DB`): Clear the Equal Flag. R307 -/
  | cle
  /-- `CLC` (`$DC`): Clear the Carry Flag. R308 -/
  | clc
  /-- `CLZ` (`$DD`): Clear the Zero Flag. R309 -/
  | clz
  /-- `CLF` (`$DE`): Clear all flags. R310 -/
  | clf
  /-- `RST` (`$DF`): soft reset. "Perform a soft reset in the processor. (Set P to $040000)". R311 -/
  | rst
  /-- `HTL` (`$E0`): halt. "Halt the processor". R312 -/
  | htl
  -- 60_exceptions.md: undefined opcodes
  /-- `UNDEFINED` (`$E1..$FF`): one of the 31 opcode bytes `$E1` to `$FF` that no instruction has. R321 -/
  | undefined (op : Byte)
  deriving DecidableEq, Repr

end Sys2Proof
end

