-- ==== Sys2Proof/WellFormed.lean ====
section
/-! DEFINITION. Which instruction terms the encoding admits: the checks on embedded operands. -/

namespace Sys2Proof

/-- The check on each form: a bit number is 0 to 7 (`30_encoding.md` R77), a shift count 1 to 8 (R78), and only the
bytes `$E1` to `$FF` are undefined opcodes (R81). Every value of every operand byte is legal (R81), so no other form has
a check. -/
def Instr.wellFormed : Instr → Bool
  | .tsta ib | .tstb ib | .tstc ib => decide (ib ≤ 7)
  | .shla n | .shlb n | .shlc n | .shra n | .shrb n | .shrc n => decide (1 ≤ n) && decide (n ≤ 8)
  | .undefined op => decide (0xE1 ≤ op.toNat)
  | .nop | .lda | .ldaA8 _ | .ldb | .ldbA8 _ | .ldc | .ldcA8 _ | .setaI8 _ | .setaB => true
  | .setaC | .setbI8 _ | .setbA | .setbC | .setcI8 _ | .setcA | .setcB | .setsI24 _ | .setsI16 _ => true
  | .setsI8 _ | .setdI24 _ | .setdI16 _ | .setdI8 _ | .sta | .staA8 _ | .stb | .stbA8 _ | .stc => true
  | .stcA8 _ | .inca | .incb | .incc | .incs | .incd | .deca | .decb | .decc => true
  | .decs | .decd | .addaI8 _ | .addaB | .addaC | .addbI8 _ | .addbA | .addbC | .addcI8 _ => true
  | .addcA | .addcB | .addsI16 _ | .addsI8 _ | .addsA | .adddI16 _ | .adddI8 _ | .adddA | .subaI8 _ => true
  | .subaB | .subaC | .subbI8 _ | .subbA | .subbC | .subcI8 _ | .subcA | .subcB | .subsI16 _ => true
  | .subsI8 _ | .subsA | .subdI16 _ | .subdI8 _ | .subdA | .andaI8 _ | .andaB | .andaC | .andbI8 _ => true
  | .andbA | .andbC | .andcI8 _ | .andcA | .andcB | .oraI8 _ | .oraB | .oraC | .orbI8 _ => true
  | .orbA | .orbC | .orcI8 _ | .orcA | .orcB | .xoraI8 _ | .xoraB | .xoraC | .xorbI8 _ => true
  | .xorbA | .xorbC | .xorcI8 _ | .xorcA | .xorcB | .nota | .notb | .notc | .cmpaI8 _ => true
  | .cmpaB | .cmpaC | .cmpbI8 _ | .cmpbC | .cmpcI8 _ | .jmp _ | .jmpf _ | .jmpa _ | .jz _ => true
  | .jzf _ | .jza _ | .jnz _ | .jnzf _ | .jnza _ | .jc _ | .jcf _ | .jca _ | .jnc _ => true
  | .jncf _ | .jnca _ | .je _ | .jef _ | .jea _ | .jne _ | .jnef _ | .jnea _ | .jg _ => true
  | .jgf _ | .jga _ | .jl _ | .jlf _ | .jla _ | .jsr _ | .ret | .pusha | .pushb => true
  | .pushc | .pushs | .pushd | .pushp | .push _ | .popa | .popb | .popc | .pops => true
  | .popd | .pop | .clg | .cle | .clc | .clz | .clf | .rst | .htl => true

end Sys2Proof
end

