-- ==== Sys2Proof/Decode.lean ====
section
/-! DEFINITION. The decoder (a 256-entry table selected by the opcode byte, `30_encoding.md` R71, R80) and the encoder,
both written from spec/opcode_table.json and `30_encoding.md`. -/

namespace Sys2Proof

/-! ### Operand bytes -/

/-- `imm16 = b1 : b2`, most significant byte first (`30_encoding.md` R72). -/
def join16 (b1 b2 : Byte) : Word16 := b1 ++ b2

/-- `imm24 = b1 : b2 : b3`, most significant byte first (`30_encoding.md` R72). -/
def join24 (b1 b2 b3 : Byte) : Addr := b1 ++ b2 ++ b3

/-- Byte `k` of a 24-bit value, byte 0 the least significant (`20_memory.md` R47: `w[7:0]`, `w[15:8]`, `w[23:16]`). -/
def byteOf24 (w : Addr) (k : Nat) : Byte := w.extractLsb' (8 * k) 8

/-- Byte `k` of a 16-bit value, byte 0 the least significant (`30_encoding.md` R72). -/
def byteOf16 (w : Word16) (k : Nat) : Byte := w.extractLsb' (8 * k) 8

/-! ### The decoder -/

/-- What an opcode byte selects: the form and how many operand bytes follow (`30_encoding.md` R70, R71). -/
inductive Row where
  /-- Formats F1 and FE, and an undefined byte: no operand byte. -/
  | implied (i : Instr)
  /-- Format F2: one operand byte. -/
  | one (f : Byte → Instr)
  /-- Format F3: two operand bytes. -/
  | two (f : Word16 → Instr)
  /-- Format F4: three operand bytes. -/
  | three (f : Addr → Instr)

/-- How many operand bytes follow the opcode byte (`30_encoding.md` R71). -/
def Row.operandBytes : Row → Nat
  | .implied _ => 0
  | .one _ => 1
  | .two _ => 2
  | .three _ => 3

/-- The instruction of a row, `b k` being operand byte `k` (the byte at `P0 + k`; `30_encoding.md` R72). -/
def Row.instr (r : Row) (b : Nat → Byte) : Instr :=
  match r with
  | .implied i => i
  | .one f => f (b 1)
  | .two f => f (join16 (b 1) (b 2))
  | .three f => f (join24 (b 1) (b 2) (b 3))

/-- The rows of opcodes `$00` to `$1B`, in order (`40_nop_load_set_store.md`). -/
def rowsLoadSetStore : List Row := [
  .implied .nop, .implied .lda, .one .ldaA8, .implied .ldb, .one .ldbA8, .implied .ldc, .one .ldcA8,
  .one .setaI8, .implied .setaB, .implied .setaC, .one .setbI8, .implied .setbA, .implied .setbC,
  .one .setcI8, .implied .setcA, .implied .setcB, .three .setsI24, .two .setsI16, .one .setsI8,
  .three .setdI24, .two .setdI16, .one .setdI8, .implied .sta, .one .staA8, .implied .stb, .one .stbA8,
  .implied .stc, .one .stcA8
  ]

/-- The rows of opcodes `$1C` to `$43`, in order (`41_arith.md`). -/
def rowsArith : List Row := [
  .implied .inca, .implied .incb, .implied .incc, .implied .incs, .implied .incd, .implied .deca,
  .implied .decb, .implied .decc, .implied .decs, .implied .decd, .one .addaI8, .implied .addaB,
  .implied .addaC, .one .addbI8, .implied .addbA, .implied .addbC, .one .addcI8, .implied .addcA,
  .implied .addcB, .two .addsI16, .one .addsI8, .implied .addsA, .two .adddI16, .one .adddI8, .implied .adddA,
  .one .subaI8, .implied .subaB, .implied .subaC, .one .subbI8, .implied .subbA, .implied .subbC,
  .one .subcI8, .implied .subcA, .implied .subcB, .two .subsI16, .one .subsI8, .implied .subsA, .two .subdI16,
  .one .subdI8, .implied .subdA
  ]

/-- The rows of opcodes `$44` to `$A9`, in order (`42_logic_shift.md`). -/
def rowsLogicShift : List Row := [
  .implied (.tsta 0), .implied (.tsta 1), .implied (.tsta 2), .implied (.tsta 3), .implied (.tsta 4),
  .implied (.tsta 5), .implied (.tsta 6), .implied (.tsta 7), .implied (.tstb 0), .implied (.tstb 1),
  .implied (.tstb 2), .implied (.tstb 3), .implied (.tstb 4), .implied (.tstb 5), .implied (.tstb 6),
  .implied (.tstb 7), .implied (.tstc 0), .implied (.tstc 1), .implied (.tstc 2), .implied (.tstc 3),
  .implied (.tstc 4), .implied (.tstc 5), .implied (.tstc 6), .implied (.tstc 7), .one .andaI8,
  .implied .andaB, .implied .andaC, .one .andbI8, .implied .andbA, .implied .andbC, .one .andcI8,
  .implied .andcA, .implied .andcB, .one .oraI8, .implied .oraB, .implied .oraC, .one .orbI8, .implied .orbA,
  .implied .orbC, .one .orcI8, .implied .orcA, .implied .orcB, .one .xoraI8, .implied .xoraB, .implied .xoraC,
  .one .xorbI8, .implied .xorbA, .implied .xorbC, .one .xorcI8, .implied .xorcA, .implied .xorcB,
  .implied .nota, .implied .notb, .implied .notc, .implied (.shla 1), .implied (.shla 2), .implied (.shla 3),
  .implied (.shla 4), .implied (.shla 5), .implied (.shla 6), .implied (.shla 7), .implied (.shla 8),
  .implied (.shlb 1), .implied (.shlb 2), .implied (.shlb 3), .implied (.shlb 4), .implied (.shlb 5),
  .implied (.shlb 6), .implied (.shlb 7), .implied (.shlb 8), .implied (.shlc 1), .implied (.shlc 2),
  .implied (.shlc 3), .implied (.shlc 4), .implied (.shlc 5), .implied (.shlc 6), .implied (.shlc 7),
  .implied (.shlc 8), .implied (.shra 1), .implied (.shra 2), .implied (.shra 3), .implied (.shra 4),
  .implied (.shra 5), .implied (.shra 6), .implied (.shra 7), .implied (.shra 8), .implied (.shrb 1),
  .implied (.shrb 2), .implied (.shrb 3), .implied (.shrb 4), .implied (.shrb 5), .implied (.shrb 6),
  .implied (.shrb 7), .implied (.shrb 8), .implied (.shrc 1), .implied (.shrc 2), .implied (.shrc 3),
  .implied (.shrc 4), .implied (.shrc 5), .implied (.shrc 6), .implied (.shrc 7), .implied (.shrc 8)
  ]

/-- The rows of opcodes `$AA` to `$CC`, in order (`43_compare_jump.md`). -/
def rowsCompareJump : List Row := [
  .one .cmpaI8, .implied .cmpaB, .implied .cmpaC, .one .cmpbI8, .implied .cmpbC, .one .cmpcI8, .one .jmp,
  .two .jmpf, .three .jmpa, .one .jz, .two .jzf, .three .jza, .one .jnz, .two .jnzf, .three .jnza, .one .jc,
  .two .jcf, .three .jca, .one .jnc, .two .jncf, .three .jnca, .one .je, .two .jef, .three .jea, .one .jne,
  .two .jnef, .three .jnea, .one .jg, .two .jgf, .three .jga, .one .jl, .two .jlf, .three .jla, .three .jsr,
  .implied .ret
  ]

/-- The rows of opcodes `$CD` to `$E0`, in order (`44_stack_flags_system.md`). -/
def rowsStackFlagsSystem : List Row := [
  .implied .pusha, .implied .pushb, .implied .pushc, .implied .pushs, .implied .pushd, .implied .pushp,
  .one .push, .implied .popa, .implied .popb, .implied .popc, .implied .pops, .implied .popd, .implied .pop,
  .implied .clg, .implied .cle, .implied .clc, .implied .clz, .implied .clf, .implied .rst, .implied .htl
  ]

/-- The rows of the 225 defined opcode bytes `$00` to `$E0` (`30_encoding.md` R80). -/
def opcodeRows : List Row :=
  rowsLoadSetStore ++ rowsArith ++ rowsLogicShift ++ rowsCompareJump ++ rowsStackFlagsSystem

/-- The row an opcode byte selects; a byte above `$E0` selects no form (`30_encoding.md` R80, R81). -/
def rowOf (op : Byte) : Row := opcodeRows.getD op.toNat (.implied (.undefined op))

/-- Why a list of bytes is not an instruction followed by further bytes. Every opcode byte decodes, so the only reason
is that the list ends too early. -/
inductive DecodeError where
  /-- There is no opcode byte. -/
  | noOpcode
  /-- The opcode byte `op` asks for more operand bytes than follow it. -/
  | missingOperand (op : Byte)
  deriving DecidableEq, Repr

/-- The instruction at the head of a list of bytes (lowest address first) and the bytes after it. The opcode byte alone
decides the form and the length (`30_encoding.md` R70). -/
def decode : List Byte → Except DecodeError (Instr × List Byte)
  | [] => .error .noOpcode
  | op :: rest =>
    if (rowOf op).operandBytes ≤ rest.length then
      .ok ((rowOf op).instr (fun k => rest.getD (k - 1) 0), rest.drop (rowOf op).operandBytes)
    else .error (.missingOperand op)

/-- The instruction a list of bytes begins with, if it begins with one. -/
def decodeHead (bytes : List Byte) : Option Instr :=
  match decode bytes with
  | .ok (i, _) => some i
  | .error _ => none

/-- The first four bytes of an instruction given as spec/opcode_table.json numbers its bits: bit 0 is the least
significant bit of the first byte, a later byte's bits count on; bits from `nbits` up are 0. -/
def tableBytes (nbits w : Nat) : List Byte :=
  [BitVec.ofNat 8 (w % 2 ^ nbits), BitVec.ofNat 8 (w % 2 ^ nbits / 2 ^ 8), BitVec.ofNat 8 (w % 2 ^ nbits / 2 ^ 16),
    BitVec.ofNat 8 (w % 2 ^ nbits / 2 ^ 24)]

/-- The instruction the decoder reads from an instruction of spec/opcode_table.json whose bits are `w`. -/
def decodeTableWord (nbits w : Nat) : Option Instr := decodeHead (tableBytes nbits w)

/-! ### The encoder -/

/-- The bytes of a form with a one-byte operand (format F2). -/
def encodeOne (op : Byte) (v : Byte) : List Byte := [op, v]

/-- The bytes of a form with a two-byte operand (format F3, `30_encoding.md` R72). -/
def encodeTwo (op : Byte) (v : Word16) : List Byte := [op, byteOf16 v 1, byteOf16 v 0]

/-- The bytes of a form with a three-byte operand (format F4, `30_encoding.md` R72). -/
def encodeThree (op : Byte) (v : Addr) : List Byte := [op, byteOf24 v 2, byteOf24 v 1, byteOf24 v 0]

/-- The bytes of an instruction, lowest address first (`30_encoding.md` R71, R72, R77, R78, R80). -/
def encode : Instr → List Byte
  | .nop => [0x00#8]
  | .lda => [0x01#8]
  | .ldaA8 a8 => encodeOne 0x02#8 a8
  | .ldb => [0x03#8]
  | .ldbA8 a8 => encodeOne 0x04#8 a8
  | .ldc => [0x05#8]
  | .ldcA8 a8 => encodeOne 0x06#8 a8
  | .setaI8 i8 => encodeOne 0x07#8 i8
  | .setaB => [0x08#8]
  | .setaC => [0x09#8]
  | .setbI8 i8 => encodeOne 0x0A#8 i8
  | .setbA => [0x0B#8]
  | .setbC => [0x0C#8]
  | .setcI8 i8 => encodeOne 0x0D#8 i8
  | .setcA => [0x0E#8]
  | .setcB => [0x0F#8]
  | .setsI24 i24 => encodeThree 0x10#8 i24
  | .setsI16 i16 => encodeTwo 0x11#8 i16
  | .setsI8 i8 => encodeOne 0x12#8 i8
  | .setdI24 i24 => encodeThree 0x13#8 i24
  | .setdI16 i16 => encodeTwo 0x14#8 i16
  | .setdI8 i8 => encodeOne 0x15#8 i8
  | .sta => [0x16#8]
  | .staA8 a8 => encodeOne 0x17#8 a8
  | .stb => [0x18#8]
  | .stbA8 a8 => encodeOne 0x19#8 a8
  | .stc => [0x1A#8]
  | .stcA8 a8 => encodeOne 0x1B#8 a8
  | .inca => [0x1C#8]
  | .incb => [0x1D#8]
  | .incc => [0x1E#8]
  | .incs => [0x1F#8]
  | .incd => [0x20#8]
  | .deca => [0x21#8]
  | .decb => [0x22#8]
  | .decc => [0x23#8]
  | .decs => [0x24#8]
  | .decd => [0x25#8]
  | .addaI8 i8 => encodeOne 0x26#8 i8
  | .addaB => [0x27#8]
  | .addaC => [0x28#8]
  | .addbI8 i8 => encodeOne 0x29#8 i8
  | .addbA => [0x2A#8]
  | .addbC => [0x2B#8]
  | .addcI8 i8 => encodeOne 0x2C#8 i8
  | .addcA => [0x2D#8]
  | .addcB => [0x2E#8]
  | .addsI16 i16 => encodeTwo 0x2F#8 i16
  | .addsI8 i8 => encodeOne 0x30#8 i8
  | .addsA => [0x31#8]
  | .adddI16 i16 => encodeTwo 0x32#8 i16
  | .adddI8 i8 => encodeOne 0x33#8 i8
  | .adddA => [0x34#8]
  | .subaI8 i8 => encodeOne 0x35#8 i8
  | .subaB => [0x36#8]
  | .subaC => [0x37#8]
  | .subbI8 i8 => encodeOne 0x38#8 i8
  | .subbA => [0x39#8]
  | .subbC => [0x3A#8]
  | .subcI8 i8 => encodeOne 0x3B#8 i8
  | .subcA => [0x3C#8]
  | .subcB => [0x3D#8]
  | .subsI16 i16 => encodeTwo 0x3E#8 i16
  | .subsI8 i8 => encodeOne 0x3F#8 i8
  | .subsA => [0x40#8]
  | .subdI16 i16 => encodeTwo 0x41#8 i16
  | .subdI8 i8 => encodeOne 0x42#8 i8
  | .subdA => [0x43#8]
  | .tsta ib => [0x44#8 + BitVec.ofNat 8 ib]
  | .tstb ib => [0x4C#8 + BitVec.ofNat 8 ib]
  | .tstc ib => [0x54#8 + BitVec.ofNat 8 ib]
  | .andaI8 i8 => encodeOne 0x5C#8 i8
  | .andaB => [0x5D#8]
  | .andaC => [0x5E#8]
  | .andbI8 i8 => encodeOne 0x5F#8 i8
  | .andbA => [0x60#8]
  | .andbC => [0x61#8]
  | .andcI8 i8 => encodeOne 0x62#8 i8
  | .andcA => [0x63#8]
  | .andcB => [0x64#8]
  | .oraI8 i8 => encodeOne 0x65#8 i8
  | .oraB => [0x66#8]
  | .oraC => [0x67#8]
  | .orbI8 i8 => encodeOne 0x68#8 i8
  | .orbA => [0x69#8]
  | .orbC => [0x6A#8]
  | .orcI8 i8 => encodeOne 0x6B#8 i8
  | .orcA => [0x6C#8]
  | .orcB => [0x6D#8]
  | .xoraI8 i8 => encodeOne 0x6E#8 i8
  | .xoraB => [0x6F#8]
  | .xoraC => [0x70#8]
  | .xorbI8 i8 => encodeOne 0x71#8 i8
  | .xorbA => [0x72#8]
  | .xorbC => [0x73#8]
  | .xorcI8 i8 => encodeOne 0x74#8 i8
  | .xorcA => [0x75#8]
  | .xorcB => [0x76#8]
  | .nota => [0x77#8]
  | .notb => [0x78#8]
  | .notc => [0x79#8]
  | .shla n => [0x7A#8 + BitVec.ofNat 8 (n - 1)]
  | .shlb n => [0x82#8 + BitVec.ofNat 8 (n - 1)]
  | .shlc n => [0x8A#8 + BitVec.ofNat 8 (n - 1)]
  | .shra n => [0x92#8 + BitVec.ofNat 8 (n - 1)]
  | .shrb n => [0x9A#8 + BitVec.ofNat 8 (n - 1)]
  | .shrc n => [0xA2#8 + BitVec.ofNat 8 (n - 1)]
  | .cmpaI8 i8 => encodeOne 0xAA#8 i8
  | .cmpaB => [0xAB#8]
  | .cmpaC => [0xAC#8]
  | .cmpbI8 i8 => encodeOne 0xAD#8 i8
  | .cmpbC => [0xAE#8]
  | .cmpcI8 i8 => encodeOne 0xAF#8 i8
  | .jmp off => encodeOne 0xB0#8 off
  | .jmpf off => encodeTwo 0xB1#8 off
  | .jmpa a24 => encodeThree 0xB2#8 a24
  | .jz off => encodeOne 0xB3#8 off
  | .jzf off => encodeTwo 0xB4#8 off
  | .jza a24 => encodeThree 0xB5#8 a24
  | .jnz off => encodeOne 0xB6#8 off
  | .jnzf off => encodeTwo 0xB7#8 off
  | .jnza a24 => encodeThree 0xB8#8 a24
  | .jc off => encodeOne 0xB9#8 off
  | .jcf off => encodeTwo 0xBA#8 off
  | .jca a24 => encodeThree 0xBB#8 a24
  | .jnc off => encodeOne 0xBC#8 off
  | .jncf off => encodeTwo 0xBD#8 off
  | .jnca a24 => encodeThree 0xBE#8 a24
  | .je off => encodeOne 0xBF#8 off
  | .jef off => encodeTwo 0xC0#8 off
  | .jea a24 => encodeThree 0xC1#8 a24
  | .jne off => encodeOne 0xC2#8 off
  | .jnef off => encodeTwo 0xC3#8 off
  | .jnea a24 => encodeThree 0xC4#8 a24
  | .jg off => encodeOne 0xC5#8 off
  | .jgf off => encodeTwo 0xC6#8 off
  | .jga a24 => encodeThree 0xC7#8 a24
  | .jl off => encodeOne 0xC8#8 off
  | .jlf off => encodeTwo 0xC9#8 off
  | .jla a24 => encodeThree 0xCA#8 a24
  | .jsr a24 => encodeThree 0xCB#8 a24
  | .ret => [0xCC#8]
  | .pusha => [0xCD#8]
  | .pushb => [0xCE#8]
  | .pushc => [0xCF#8]
  | .pushs => [0xD0#8]
  | .pushd => [0xD1#8]
  | .pushp => [0xD2#8]
  | .push i8 => encodeOne 0xD3#8 i8
  | .popa => [0xD4#8]
  | .popb => [0xD5#8]
  | .popc => [0xD6#8]
  | .pops => [0xD7#8]
  | .popd => [0xD8#8]
  | .pop => [0xD9#8]
  | .clg => [0xDA#8]
  | .cle => [0xDB#8]
  | .clc => [0xDC#8]
  | .clz => [0xDD#8]
  | .clf => [0xDE#8]
  | .rst => [0xDF#8]
  | .htl => [0xE0#8]
  | .undefined op => [op]

end Sys2Proof
end

