-- ==== Sys2Proof/Config.lean ====
section
/-! DEFINITION. What an implementation fixes (the parameters of `00_scope.md` section 4) and the model's one free value. -/

namespace Sys2Proof.Config

/-- What a byte of memory that nothing has written holds, by its address. The spec leaves it unspecified
(`70_reset_and_hazards.md` R353, U7, U8: "any value"), arbitrary but fixed (D29). No body: nothing can be proved of
its value. DESIGN CHOICE, safe, log 2. -/
opaque unwrittenByte : Nat → Byte

/-- `RESET_VECTOR`: where the first instruction after a hard reset is fetched, and where `RST` sends P
(`70_reset_and_hazards.md` R350, `44_stack_flags_system.md` R311). -/
def resetVector : Addr := 0x040000#24

/-- `T_RESET` (`70_reset_and_hazards.md` R351). -/
def stackPosReset : StackPos := 0#12

/-- `ZERO_PAGE_BASE` (`20_memory.md` R43). -/
def zeroPageBase : Addr := 0x000000#24

/-- The value `State.reset` gives the OPEN parameter `STACK_BASE` (`20_memory.md` R44): the one the spec's worked
examples use (`95_test_vectors.md` section 2). DESIGN CHOICE, unsafe for runs from reset, log 3. -/
def stackBaseReset : Addr := 0x000100#24

/-- `CLOCK_HZ` (`70_reset_and_hazards.md` R359). No architectural state depends on it. -/
def clockHz : Nat := 2150000

end Sys2Proof.Config
end

