-- ==== Sys2Proof/Machine/State.lean ====
section
/-! DEFINITION. The state of the JG82 as plain data, its value after reset, and the reasons a step can stop. -/

namespace Sys2Proof.Machine

/-- The four flags of F: bits 0 to 3 (`10_state.md` R18). Bits 4 to 7 have no state (R19). The field `C` is the carry
flag `F.C`, never the register C. -/
structure Flags where
  /-- Greater, bit 0. -/
  G : Bool
  /-- Equal, bit 1. -/
  E : Bool
  /-- Carry, bit 2. -/
  C : Bool
  /-- Zero, bit 3. -/
  Z : Bool
  deriving DecidableEq, Repr

/-- The run state (`10_state.md` R22). -/
inductive RunState where
  /-- The machine executes steps (`30_encoding.md` R82). -/
  | running
  /-- Entered by `HTL`; final (`60_exceptions.md` R325). -/
  | halted
  /-- Entered by an undefined opcode; it records the byte and its address (`60_exceptions.md` R321). -/
  | faulted (op : Byte) (addr : Addr)
  deriving DecidableEq, Repr

/-- The bytes of memory that something has written, by address: addresses strictly rising (`Memory.wf`). A byte that is
not listed has not been written: it has no value of its own here, and reading it gives the free value
`Config.unwrittenByte` (log 2). -/
abbrev Memory := List Host.Cell

/-- The canonical form: addresses strictly rising and below `2^24` (`20_memory.md` R40). An unlisted byte reads as
unwritten, which no listed byte is, so equal memories are equal lists. -/
def Memory.wf : Memory → Bool
  | [] => true
  | [c] => decide (c.1 < 2 ^ 24)
  | c :: d :: m => decide (c.1 < d.1) && Memory.wf (d :: m)

/-- Everything the spec gives the machine (`10_state.md`, `20_memory.md`). -/
structure State where
  /-- General register A, 8 bits (R11). -/
  A : Byte
  /-- General register B, 8 bits (R11). -/
  B : Byte
  /-- General register C, 8 bits (R11). -/
  C : Byte
  /-- Source Offset Register, 24 bits (R12). -/
  S : Addr
  /-- Destination Offset Register, 24 bits (R13). -/
  D : Addr
  /-- Stack Pointer Register, 12 bits (R14). -/
  T : StackPos
  /-- Program Pointer Register, 24 bits: the address of the next opcode byte (R15, R16). -/
  P : Addr
  /-- The flags of F (R18). -/
  F : Flags
  /-- The run state (R22). -/
  run : RunState
  /-- Memory (R40, R41). -/
  mem : Memory
  /-- `STACK_BASE`: the address of the stack byte that T = 0 selects. The spec's OPEN parameter (R44, D14), held here as a
  constant that nothing changes, so that a statement about every state holds for every value of it. DESIGN CHOICE, log 3. -/
  stackBase : Addr
  deriving DecidableEq, Repr

/-- The reasons a step stops the machine. -/
inductive Fault where
  /-- Raised by `step` when the run state is `faulted op addr`: the machine fetched the undefined opcode byte `op` at
  `addr` and takes no further step (`60_exceptions.md` R321). Safe: nothing can be proved of a machine that goes on. -/
  | illegalOpcode (op : Byte) (addr : Addr)
  deriving DecidableEq, Repr

/-- The reasons the model declines to give a meaning. -/
inductive Refusal where
  /-- Raised by `exec` for an instruction that has no meaning in the model. No arm raises it: every form is modelled.
  Safe: nothing can be proved of such an instruction. -/
  | notModelled (mnemonic : String)
  deriving DecidableEq, Repr

/-- What an instruction or a step answers. -/
abbrev Result := Host.Outcome State Fault Refusal

/-- The machine right after a hard reset (`70_reset_and_hazards.md` R350 to R353): P at the reset vector, T = 0, running,
no byte of memory written. The spec leaves A, B, C, S, D and the flags unspecified; they are 0 here (DESIGN CHOICE, unsafe,
log 1), and `stackBase` is the worked examples' value (DESIGN CHOICE, log 3). -/
def State.reset : State where
  A := 0#8
  B := 0#8
  C := 0#8
  S := 0#24
  D := 0#24
  T := Config.stackPosReset
  P := Config.resetVector
  F := ⟨false, false, false, false⟩
  run := .running
  mem := []
  stackBase := Config.stackBaseReset

end Sys2Proof.Machine
end

