-- ==== Sys2Proof/Machine/Ops.lean ====
section
/-! DEFINITION. The named operations over memory, registers, the stack, P and the run state that every meaning is made
of. -/

namespace Sys2Proof.Machine

/-! ### Memory (`20_memory.md` R41) -/

/-- The byte written at an address, if one has been written. -/
def Memory.lookup : Memory → Nat → Option Byte
  | [], _ => none
  | (k, v) :: m, a => if a = k then some v else Memory.lookup m a

/-- The memory with the byte at `a` replaced by `v`, in canonical form. -/
def Memory.insert : Memory → Nat → Byte → Memory
  | [], a, v => [(a, v)]
  | (k, w) :: m, a, v =>
    if a < k then (a, v) :: (k, w) :: m
    else if a = k then (k, v) :: m
    else (k, w) :: Memory.insert m a v

/-- `MemRead(addr, 1)`: the most recent byte written at the address, or the free value of an unwritten byte. -/
def State.memRead (s : State) (a : Addr) : Byte :=
  (Memory.lookup s.mem a.toNat).getD (Config.unwrittenByte a.toNat)

/-- `MemWrite(addr, 1, v)`: replaces the byte at the address and changes no other byte. -/
def State.memWrite (a : Addr) (v : Byte) (s : State) : State :=
  { s with mem := Memory.insert s.mem a.toNat v }

/-- The bytes stored at ascending addresses from `a`, modulo `2^24`. -/
def State.storeBytes (a : Addr) : List Byte → State → State
  | [], s => s
  | v :: vs, s => State.storeBytes (a + 1#24) vs (s.memWrite a v)

/-! ### Registers -/

/-- The 8-bit general registers (`10_state.md` R11). -/
inductive Reg8 where
  | A
  | B
  | C
  deriving DecidableEq, Repr

/-- The 24-bit address registers an instruction names (`10_state.md` R12, R13). -/
inductive Reg24 where
  | S
  | D
  deriving DecidableEq, Repr

/-- `x[r]` for `r` one of A, B, C (`00_scope.md` section 6.2). -/
def State.reg8 (r : Reg8) (s : State) : Byte :=
  match r with
  | .A => s.A
  | .B => s.B
  | .C => s.C

/-- `x[r] <- v` for `r` one of A, B, C. -/
def State.setReg8 (r : Reg8) (v : Byte) (s : State) : State :=
  match r with
  | .A => { s with A := v }
  | .B => { s with B := v }
  | .C => { s with C := v }

/-- `x[r]` for `r` one of S, D. -/
def State.reg24 (r : Reg24) (s : State) : Addr :=
  match r with
  | .S => s.S
  | .D => s.D

/-- `x[r] <- v` for `r` one of S, D. -/
def State.setReg24 (r : Reg24) (v : Addr) (s : State) : State :=
  match r with
  | .S => { s with S := v }
  | .D => { s with D := v }

/-- The flags replaced. -/
def State.setFlags (f : Flags) (s : State) : State := { s with F := f }

/-! ### P (`10_state.md` R16, R17) -/

/-- `next = (P0 + L) mod 2^24`: the address of the instruction that follows one of `L` bytes. -/
def State.nextAddr (L : Nat) (s : State) : Addr := s.P + BitVec.ofNat 24 L

/-- `P <- target`. -/
def State.setP (target : Addr) (s : State) : State := { s with P := target }

/-- `P <- next` after an instruction of `L` bytes. -/
def State.advance (L : Nat) (s : State) : State := s.setP (s.nextAddr L)

/-! ### The stack (`20_memory.md` R44 to R48) -/

/-- `StackAddr(t) = (STACK_BASE + t) mod 2^24` (R44). -/
def State.stackAddr (t : StackPos) (s : State) : Addr := s.stackBase + t.setWidth 24

/-- T replaced. -/
def State.setT (t : StackPos) (s : State) : State := { s with T := t }

/-- `Push8(v)`: store at the position T selects, then increment T modulo 4096 (R45, R48). -/
def State.push8 (v : Byte) (s : State) : State :=
  (s.memWrite (s.stackAddr s.T) v).setT (s.T + 1#12)

/-- `Pop8()`: decrement T modulo 4096, then read at the position the new T selects (R46, R48). -/
def State.pop8 (s : State) : Byte × State :=
  (s.memRead (s.stackAddr (s.T - 1#12)), s.setT (s.T - 1#12))

/-- `Push24(w)`: the most significant byte first, at the lowest address (R47). -/
def State.push24 (w : Addr) (s : State) : State :=
  ((s.push8 (byteOf24 w 2)).push8 (byteOf24 w 1)).push8 (byteOf24 w 0)

/-- `Pop24()`: the least significant byte first (R47). -/
def State.pop24 (s : State) : Addr × State :=
  let lo := s.pop8
  let mid := lo.2.pop8
  let hi := mid.2.pop8
  (join24 hi.1 mid.1 lo.1, hi.2)

/-! ### Run state -/

/-- The run state replaced. -/
def State.setRun (r : RunState) (s : State) : State := { s with run := r }

/-- `halt` (`60_exceptions.md` R325). -/
def State.halt (s : State) : State := s.setRun .halted

/-- `raise IllegalOpcode(op, P0)`: the one exception of the JG82. The run state becomes `faulted`, recording the byte and
its address; nothing is saved, no handler is entered, P stays at the byte (`60_exceptions.md` R321). There is no return
from it (R324). -/
def State.raiseIllegalOpcode (op : Byte) (s : State) : State := s.setRun (.faulted op s.P)

end Sys2Proof.Machine
end

