-- ==== Sys2Proof/Machine/Flags.lean ====
section
/-! DEFINITION. Every flag computation (`10_state.md` R21, `41_arith.md` R185) and the jump conditions. `w` is the width of
the destination register, 8 or 24. -/

namespace Sys2Proof.Machine

/-- F as a byte, for an outside view: bits 4 to 7 read as 0 (`10_state.md` R18, R19). -/
def Flags.toByte (f : Flags) : Byte := 0#4 ++ BitVec.ofBool f.Z ++ BitVec.ofBool f.C ++ BitVec.ofBool f.E ++ BitVec.ofBool f.G

/-- `F.Z` of a loaded byte or a result: 1 exactly when it is 0 (`10_state.md` R21). -/
def isZero {w : Nat} (res : BitVec w) : Bool := decide (res.toNat = 0)

/-- `F.C` of an increment: 1 exactly when the old value is the maximum (`41_arith.md` R141). -/
def incCarry {w : Nat} (x : BitVec w) : Bool := decide (x.toNat = 2 ^ w - 1)

/-- `F.C` of a decrement: 1 exactly when the old value is 0 (`41_arith.md` R147). -/
def decCarry {w : Nat} (x : BitVec w) : Bool := decide (x.toNat = 0)

/-- `F.C` of an addition: 1 exactly when the true sum exceeds the maximum (`41_arith.md` R153). -/
def addCarry {w : Nat} (x v : BitVec w) : Bool := decide (2 ^ w - 1 < x.toNat + v.toNat)

/-- `F.C` of a subtraction, a borrow: 1 exactly when the value subtracted is the greater (`41_arith.md` R169). -/
def subCarry {w : Nat} (x v : BitVec w) : Bool := decide (x.toNat < v.toNat)

/-- `F.G` of a compare, unsigned (`43_compare_jump.md` R240). -/
def cmpGreater (x v : Byte) : Bool := decide (v.toNat < x.toNat)

/-- `F.E` of a compare (`43_compare_jump.md` R240). -/
def cmpEqual (x v : Byte) : Bool := decide (x.toNat = v.toNat)

/-- `F.Z` of a bit test: the complement of the tested bit (`42_logic_shift.md` R190). -/
def tstZero (x : Byte) (ib : Nat) : Bool := !x.getLsbD ib

/-- The flag of LDx, ANDx, ORx, XORx, NOTx and SHRx: Z from the result, the others kept. -/
def Flags.withResult {w : Nat} (res : BitVec w) (f : Flags) : Flags := { f with Z := isZero res }

/-- The flags of INCx: C, the others kept; Z is not written (`41_arith.md` R141). -/
def Flags.withInc {w : Nat} (x : BitVec w) (f : Flags) : Flags := { f with C := incCarry x }

/-- The flags of DECx: Z from the result and C (`41_arith.md` R147). -/
def Flags.withDec {w : Nat} (x : BitVec w) (f : Flags) : Flags :=
  { f with C := decCarry x, Z := isZero (x - 1) }

/-- The flags of ADDx: C, the others kept; Z is not written (`41_arith.md` R153). -/
def Flags.withAdd {w : Nat} (x v : BitVec w) (f : Flags) : Flags := { f with C := addCarry x v }

/-- The flags of SUBx: Z from the result and C (`41_arith.md` R169). -/
def Flags.withSub {w : Nat} (x v : BitVec w) (f : Flags) : Flags :=
  { f with C := subCarry x v, Z := isZero (x - v) }

/-- The flag of TSTx (`42_logic_shift.md` R190). -/
def Flags.withTst (x : Byte) (ib : Nat) (f : Flags) : Flags := { f with Z := tstZero x ib }

/-- The flags of CMPx: G and E, the others kept (`43_compare_jump.md` R240). -/
def Flags.withCmp (x v : Byte) (f : Flags) : Flags := { f with G := cmpGreater x v, E := cmpEqual x v }

/-- The flags after `CLF` (`44_stack_flags_system.md` R310). -/
def Flags.clear : Flags := ⟨false, false, false, false⟩

/-- The conditions of the conditional jumps (`43_compare_jump.md` R248). -/
inductive Cond where
  /-- JZ: "if Zero flag is set". -/
  | zero
  /-- JNZ: "if the Zero flag is not set". -/
  | notZero
  /-- JC: "if Carry flag is set". -/
  | carry
  /-- JNC: "if the Carry flag is not set". -/
  | notCarry
  /-- JE: "if Equal flag is set". -/
  | equal
  /-- JNE: "if the Equal flag is not set". -/
  | notEqual
  /-- JG: "if Greater flag is set". -/
  | greater
  /-- JL: "if the Greater flag AND the Equal flag are not set", both of them unset (conflict C7). -/
  | less
  deriving DecidableEq, Repr

/-- When a conditional jump jumps (`43_compare_jump.md` R248). -/
def Cond.holds (c : Cond) (f : Flags) : Bool :=
  match c with
  | .zero => f.Z
  | .notZero => !f.Z
  | .carry => f.C
  | .notCarry => !f.C
  | .equal => f.E
  | .notEqual => !f.E
  | .greater => f.G
  | .less => !f.G && !f.E

end Sys2Proof.Machine
end

