-- ==== Sys2Proof/Machine/Operands.lean ====
section
/-! DEFINITION. Every operand form: the widened values, the effective addresses and the jump targets. -/

namespace Sys2Proof.Machine

/-- `zext_24(v)`: a narrow value immediate or register A combined with S or D (`30_encoding.md` R73). -/
def zext24 {w : Nat} (v : BitVec w) : Addr := v.setWidth 24

/-- `sext_24(v)`: a jump offset in two's complement (`30_encoding.md` R75). -/
def sext24 {w : Nat} (v : BitVec w) : Addr := v.signExtend 24

/-- The effective address "pointed by S" of a load (`20_memory.md` R56). -/
def State.sourceAddr (s : State) : Addr := s.S

/-- The effective address "pointed by D" of a store or of `POP` (`20_memory.md` R56). -/
def State.destAddr (s : State) : Addr := s.D

/-- The zero-page address of `a8` (`20_memory.md` R43, `30_encoding.md` R74). -/
def zeroPageAddr (a8 : Byte) : Addr := Config.zeroPageBase + zext24 a8

/-- The target of a near or far jump of `L` bytes: `(next + sext_24(off)) mod 2^24` (`43_compare_jump.md` R247). -/
def State.relTarget {w : Nat} (off : BitVec w) (L : Nat) (s : State) : Addr := s.nextAddr L + sext24 off

/-- The target of an absolute jump: the operand itself (`30_encoding.md` R76). -/
def absTarget (a24 : Addr) : Addr := a24

end Sys2Proof.Machine
end

