-- ==== Sys2Proof/Machine/Arith.lean ====
section
/-! DEFINITION. INCx, DECx, ADDx, SUBx (`41_arith.md`). -/

namespace Sys2Proof.Machine

/-- INCx on A, B or C: add 1 modulo 256; writes C (R141). -/
def State.inc8 (r : Reg8) (s : State) : State :=
  ((s.setReg8 r (s.reg8 r + 1)).setFlags (s.F.withInc (s.reg8 r))).advance 1

/-- INCx on S or D: add 1 modulo `2^24`; writes C (R141). -/
def State.inc24 (r : Reg24) (s : State) : State :=
  ((s.setReg24 r (s.reg24 r + 1)).setFlags (s.F.withInc (s.reg24 r))).advance 1

/-- DECx on A, B or C: subtract 1 modulo 256; writes C and Z (R147). -/
def State.dec8 (r : Reg8) (s : State) : State :=
  ((s.setReg8 r (s.reg8 r - 1)).setFlags (s.F.withDec (s.reg8 r))).advance 1

/-- DECx on S or D: subtract 1 modulo `2^24`; writes C and Z (R147). -/
def State.dec24 (r : Reg24) (s : State) : State :=
  ((s.setReg24 r (s.reg24 r - 1)).setFlags (s.F.withDec (s.reg24 r))).advance 1

/-- ADDx of `L` bytes on A, B or C: add `v` modulo 256; writes C (R140, R153). -/
def State.add8 (r : Reg8) (v : Byte) (L : Nat) (s : State) : State :=
  ((s.setReg8 r (s.reg8 r + v)).setFlags (s.F.withAdd (s.reg8 r) v)).advance L

/-- ADDx of `L` bytes on S or D: add `v` modulo `2^24`; writes C (R140, R153). -/
def State.add24 (r : Reg24) (v : Addr) (L : Nat) (s : State) : State :=
  ((s.setReg24 r (s.reg24 r + v)).setFlags (s.F.withAdd (s.reg24 r) v)).advance L

/-- SUBx of `L` bytes on A, B or C: subtract `v` modulo 256; writes C and Z (R140, R169). -/
def State.sub8 (r : Reg8) (v : Byte) (L : Nat) (s : State) : State :=
  ((s.setReg8 r (s.reg8 r - v)).setFlags (s.F.withSub (s.reg8 r) v)).advance L

/-- SUBx of `L` bytes on S or D: subtract `v` modulo `2^24`; writes C and Z (R140, R169). -/
def State.sub24 (r : Reg24) (v : Addr) (L : Nat) (s : State) : State :=
  ((s.setReg24 r (s.reg24 r - v)).setFlags (s.F.withSub (s.reg24 r) v)).advance L

/-- `INCA` (`$1C`): increment A by 1. R142 -/
def execInca (s : State) : Result := .next (s.inc8 .A)

/-- `INCB` (`$1D`): increment B by 1. R143 -/
def execIncb (s : State) : Result := .next (s.inc8 .B)

/-- `INCC` (`$1E`): increment C by 1. R144 -/
def execIncc (s : State) : Result := .next (s.inc8 .C)

/-- `INCS` (`$1F`): increment S by 1. R145 -/
def execIncs (s : State) : Result := .next (s.inc24 .S)

/-- `INCD` (`$20`): increment D by 1. R146 -/
def execIncd (s : State) : Result := .next (s.inc24 .D)

/-- `DECA` (`$21`): decrement A by 1. R148 -/
def execDeca (s : State) : Result := .next (s.dec8 .A)

/-- `DECB` (`$22`): decrement B by 1. R149 -/
def execDecb (s : State) : Result := .next (s.dec8 .B)

/-- `DECC` (`$23`): decrement C by 1. R150 -/
def execDecc (s : State) : Result := .next (s.dec8 .C)

/-- `DECS` (`$24`): decrement S by 1. R151 -/
def execDecs (s : State) : Result := .next (s.dec24 .S)

/-- `DECD` (`$25`): decrement D by 1. R152 -/
def execDecd (s : State) : Result := .next (s.dec24 .D)

/-- `ADDA i8` (`$26`): add an 8-bit immediate to A. R154 -/
def execAddaI8 (i8 : Byte) (s : State) : Result := .next (s.add8 .A i8 2)

/-- `ADDA b` (`$27`): add register B to A. R155 -/
def execAddaB (s : State) : Result := .next (s.add8 .A (s.reg8 .B) 1)

/-- `ADDA c` (`$28`): add register C to A. R156 -/
def execAddaC (s : State) : Result := .next (s.add8 .A (s.reg8 .C) 1)

/-- `ADDB i8` (`$29`): add an 8-bit immediate to B. R157 -/
def execAddbI8 (i8 : Byte) (s : State) : Result := .next (s.add8 .B i8 2)

/-- `ADDB a` (`$2A`): add register A to B. R158 -/
def execAddbA (s : State) : Result := .next (s.add8 .B (s.reg8 .A) 1)

/-- `ADDB c` (`$2B`): add register C to B. R159 -/
def execAddbC (s : State) : Result := .next (s.add8 .B (s.reg8 .C) 1)

/-- `ADDC i8` (`$2C`): add an 8-bit immediate to C. R160 -/
def execAddcI8 (i8 : Byte) (s : State) : Result := .next (s.add8 .C i8 2)

/-- `ADDC a` (`$2D`): add register A to C. R161 -/
def execAddcA (s : State) : Result := .next (s.add8 .C (s.reg8 .A) 1)

/-- `ADDC b` (`$2E`): add register B to C. R162 -/
def execAddcB (s : State) : Result := .next (s.add8 .C (s.reg8 .B) 1)

/-- `ADDS i16` (`$2F`): add a 16-bit immediate to S. R163 -/
def execAddsI16 (i16 : Word16) (s : State) : Result := .next (s.add24 .S (zext24 i16) 3)

/-- `ADDS i8` (`$30`): add an 8-bit immediate to S. R164 -/
def execAddsI8 (i8 : Byte) (s : State) : Result := .next (s.add24 .S (zext24 i8) 2)

/-- `ADDS a` (`$31`): add register A to S. R165 -/
def execAddsA (s : State) : Result := .next (s.add24 .S (zext24 (s.reg8 .A)) 1)

/-- `ADDD i16` (`$32`): add a 16-bit immediate to D. R166 -/
def execAdddI16 (i16 : Word16) (s : State) : Result := .next (s.add24 .D (zext24 i16) 3)

/-- `ADDD i8` (`$33`): add an 8-bit immediate to D. R167 -/
def execAdddI8 (i8 : Byte) (s : State) : Result := .next (s.add24 .D (zext24 i8) 2)

/-- `ADDD a` (`$34`): add register A to D. R168 -/
def execAdddA (s : State) : Result := .next (s.add24 .D (zext24 (s.reg8 .A)) 1)

/-- `SUBA i8` (`$35`): subtract an 8-bit immediate from A. R170 -/
def execSubaI8 (i8 : Byte) (s : State) : Result := .next (s.sub8 .A i8 2)

/-- `SUBA b` (`$36`): subtract register B from A. R171 -/
def execSubaB (s : State) : Result := .next (s.sub8 .A (s.reg8 .B) 1)

/-- `SUBA c` (`$37`): subtract register C from A. R172 -/
def execSubaC (s : State) : Result := .next (s.sub8 .A (s.reg8 .C) 1)

/-- `SUBB i8` (`$38`): subtract an 8-bit immediate from B. R173 -/
def execSubbI8 (i8 : Byte) (s : State) : Result := .next (s.sub8 .B i8 2)

/-- `SUBB a` (`$39`): subtract register A from B. R174 -/
def execSubbA (s : State) : Result := .next (s.sub8 .B (s.reg8 .A) 1)

/-- `SUBB c` (`$3A`): subtract register C from B. R175 -/
def execSubbC (s : State) : Result := .next (s.sub8 .B (s.reg8 .C) 1)

/-- `SUBC i8` (`$3B`): subtract an 8-bit immediate from C. R176 -/
def execSubcI8 (i8 : Byte) (s : State) : Result := .next (s.sub8 .C i8 2)

/-- `SUBC a` (`$3C`): subtract register A from C. R177 -/
def execSubcA (s : State) : Result := .next (s.sub8 .C (s.reg8 .A) 1)

/-- `SUBC b` (`$3D`): subtract register B from C. R178 -/
def execSubcB (s : State) : Result := .next (s.sub8 .C (s.reg8 .B) 1)

/-- `SUBS i16` (`$3E`): subtract a 16-bit immediate from S. R179 -/
def execSubsI16 (i16 : Word16) (s : State) : Result := .next (s.sub24 .S (zext24 i16) 3)

/-- `SUBS i8` (`$3F`): subtract an 8-bit immediate from S. R180 -/
def execSubsI8 (i8 : Byte) (s : State) : Result := .next (s.sub24 .S (zext24 i8) 2)

/-- `SUBS a` (`$40`): subtract register A from S. R181 -/
def execSubsA (s : State) : Result := .next (s.sub24 .S (zext24 (s.reg8 .A)) 1)

/-- `SUBD i16` (`$41`): subtract a 16-bit immediate from D. R182 -/
def execSubdI16 (i16 : Word16) (s : State) : Result := .next (s.sub24 .D (zext24 i16) 3)

/-- `SUBD i8` (`$42`): subtract an 8-bit immediate from D. R183 -/
def execSubdI8 (i8 : Byte) (s : State) : Result := .next (s.sub24 .D (zext24 i8) 2)

/-- `SUBD a` (`$43`): subtract register A from D. R184 -/
def execSubdA (s : State) : Result := .next (s.sub24 .D (zext24 (s.reg8 .A)) 1)

end Sys2Proof.Machine
end

