-- ==== Sys2Proof/Machine/CompareJump.lean ====
section
/-! DEFINITION. CMPx, the jumps, JSR, RET (`43_compare_jump.md`). -/

namespace Sys2Proof.Machine

/-- CMPx of `L` bytes: writes G and E from register `r` against `v`, unsigned; no register changes (R240). -/
def State.cmp8 (r : Reg8) (v : Byte) (L : Nat) (s : State) : State :=
  (s.setFlags (s.F.withCmp (s.reg8 r) v)).advance L

/-- A conditional jump of `L` bytes: to `target` where the condition holds, else to the next instruction (R248). -/
def State.jumpIf (c : Cond) (target : Addr) (L : Nat) (s : State) : State :=
  if c.holds s.F then s.setP target else s.advance L

/-- `CMPA i8` (`$AA`): compare A with an 8-bit immediate. R241 -/
def execCmpaI8 (i8 : Byte) (s : State) : Result := .next (s.cmp8 .A i8 2)

/-- `CMPA b` (`$AB`): compare A with register B. R242 -/
def execCmpaB (s : State) : Result := .next (s.cmp8 .A (s.reg8 .B) 1)

/-- `CMPA c` (`$AC`): compare A with register C. R243 -/
def execCmpaC (s : State) : Result := .next (s.cmp8 .A (s.reg8 .C) 1)

/-- `CMPB i8` (`$AD`): compare B with an 8-bit immediate. R244 -/
def execCmpbI8 (i8 : Byte) (s : State) : Result := .next (s.cmp8 .B i8 2)

/-- `CMPB c` (`$AE`): compare B with register C. R245 -/
def execCmpbC (s : State) : Result := .next (s.cmp8 .B (s.reg8 .C) 1)

/-- `CMPC i8` (`$AF`): compare C with an 8-bit immediate. R246 -/
def execCmpcI8 (i8 : Byte) (s : State) : Result := .next (s.cmp8 .C i8 2)

/-- `JMP a8` (`$B0`): unconditional near jump. "Jump to near address (relative -128 to 127)". R249 -/
def execJmp (off : Byte) (s : State) : Result := .next (s.setP (s.relTarget off 2))

/-- `JMPF a16` (`$B1`): unconditional far jump. "Jump to far address (relative -32,768 to 32,767)". R250 -/
def execJmpf (off : Word16) (s : State) : Result := .next (s.setP (s.relTarget off 3))

/-- `JMPA a24` (`$B2`): unconditional absolute jump. "Jump to absolute address". R251 -/
def execJmpa (a24 : Addr) (s : State) : Result := .next (s.setP (absTarget a24))

/-- `JZ a8` (`$B3`): near jump if the Zero flag is set. R252 -/
def execJz (off : Byte) (s : State) : Result := .next (s.jumpIf .zero (s.relTarget off 2) 2)

/-- `JZF a16` (`$B4`): far jump if the Zero flag is set. R253 -/
def execJzf (off : Word16) (s : State) : Result := .next (s.jumpIf .zero (s.relTarget off 3) 3)

/-- `JZA a24` (`$B5`): absolute jump if the Zero flag is set. R254 -/
def execJza (a24 : Addr) (s : State) : Result := .next (s.jumpIf .zero (absTarget a24) 4)

/-- `JNZ a8` (`$B6`): near jump if the Zero flag is not set. R255 -/
def execJnz (off : Byte) (s : State) : Result := .next (s.jumpIf .notZero (s.relTarget off 2) 2)

/-- `JNZF a16` (`$B7`): far jump if the Zero flag is not set. R256 -/
def execJnzf (off : Word16) (s : State) : Result := .next (s.jumpIf .notZero (s.relTarget off 3) 3)

/-- `JNZA a24` (`$B8`): absolute jump if the Zero flag is not set. R257 -/
def execJnza (a24 : Addr) (s : State) : Result := .next (s.jumpIf .notZero (absTarget a24) 4)

/-- `JC a8` (`$B9`): near jump if the Carry flag is set. R258 -/
def execJc (off : Byte) (s : State) : Result := .next (s.jumpIf .carry (s.relTarget off 2) 2)

/-- `JCF a16` (`$BA`): far jump if the Carry flag is set. R259 -/
def execJcf (off : Word16) (s : State) : Result := .next (s.jumpIf .carry (s.relTarget off 3) 3)

/-- `JCA a24` (`$BB`): absolute jump if the Carry flag is set. R260 -/
def execJca (a24 : Addr) (s : State) : Result := .next (s.jumpIf .carry (absTarget a24) 4)

/-- `JNC a8` (`$BC`): near jump if the Carry flag is not set. R261 -/
def execJnc (off : Byte) (s : State) : Result := .next (s.jumpIf .notCarry (s.relTarget off 2) 2)

/-- `JNCF a16` (`$BD`): far jump if the Carry flag is not set. R262 -/
def execJncf (off : Word16) (s : State) : Result := .next (s.jumpIf .notCarry (s.relTarget off 3) 3)

/-- `JNCA a24` (`$BE`): absolute jump if the Carry flag is not set. R263 -/
def execJnca (a24 : Addr) (s : State) : Result := .next (s.jumpIf .notCarry (absTarget a24) 4)

/-- `JE a8` (`$BF`): near jump if the Equal flag is set. R264 -/
def execJe (off : Byte) (s : State) : Result := .next (s.jumpIf .equal (s.relTarget off 2) 2)

/-- `JEF a16` (`$C0`): far jump if the Equal flag is set. R265 -/
def execJef (off : Word16) (s : State) : Result := .next (s.jumpIf .equal (s.relTarget off 3) 3)

/-- `JEA a24` (`$C1`): absolute jump if the Equal flag is set. R266 -/
def execJea (a24 : Addr) (s : State) : Result := .next (s.jumpIf .equal (absTarget a24) 4)

/-- `JNE a8` (`$C2`): near jump if the Equal flag is not set. R267 -/
def execJne (off : Byte) (s : State) : Result := .next (s.jumpIf .notEqual (s.relTarget off 2) 2)

/-- `JNEF a16` (`$C3`): far jump if the Equal flag is not set. R268 -/
def execJnef (off : Word16) (s : State) : Result := .next (s.jumpIf .notEqual (s.relTarget off 3) 3)

/-- `JNEA a24` (`$C4`): absolute jump if the Equal flag is not set. R269 -/
def execJnea (a24 : Addr) (s : State) : Result := .next (s.jumpIf .notEqual (absTarget a24) 4)

/-- `JG a8` (`$C5`): near jump if the Greater flag is set. R270 -/
def execJg (off : Byte) (s : State) : Result := .next (s.jumpIf .greater (s.relTarget off 2) 2)

/-- `JGF a16` (`$C6`): far jump if the Greater flag is set. R271 -/
def execJgf (off : Word16) (s : State) : Result := .next (s.jumpIf .greater (s.relTarget off 3) 3)

/-- `JGA a24` (`$C7`): absolute jump if the Greater flag is set. R272 -/
def execJga (a24 : Addr) (s : State) : Result := .next (s.jumpIf .greater (absTarget a24) 4)

/-- `JL a8` (`$C8`): near jump if the Greater flag and the Equal flag are both not set. R273 -/
def execJl (off : Byte) (s : State) : Result := .next (s.jumpIf .less (s.relTarget off 2) 2)

/-- `JLF a16` (`$C9`): far jump if the Greater flag and the Equal flag are both not set. R274 -/
def execJlf (off : Word16) (s : State) : Result := .next (s.jumpIf .less (s.relTarget off 3) 3)

/-- `JLA a24` (`$CA`): absolute jump if the Greater flag and the Equal flag are both not set. R275 -/
def execJla (a24 : Addr) (s : State) : Result := .next (s.jumpIf .less (absTarget a24) 4)

/-- `JSR a24` (`$CB`): jump to sub-routine. "JSR will perform an absolute jump and save P into stack." (quick table: "Jump to sub-routine saving P to stack."). R276 -/
def execJsr (a24 : Addr) (s : State) : Result := .next ((s.push24 (s.nextAddr 4)).setP (absTarget a24))

/-- `RET` (`$CC`): return from sub-routine. "RET will return from a sub-routine by getting the previous saved P from the stack and jumping to it. It is an absolute jump". R277 -/
def execRet (s : State) : Result := .next (s.pop24.2.setP s.pop24.1)

end Sys2Proof.Machine
end

