-- ==== Sys2Proof/Machine/LoadSetStore.lean ====
section
/-! DEFINITION. NOP, LDx, SETx, STx (`40_nop_load_set_store.md`). -/

namespace Sys2Proof.Machine

/-- LDx of `L` bytes: load 8-bit register `r` with the byte at `ea`; writes Z (R101). -/
def State.load8 (r : Reg8) (ea : Addr) (L : Nat) (s : State) : State :=
  ((s.setReg8 r (s.memRead ea)).setFlags (s.F.withResult (s.memRead ea))).advance L

/-- SETx of `L` bytes on A, B or C: the value replaces the register; no flag (R108). -/
def State.set8 (r : Reg8) (v : Byte) (L : Nat) (s : State) : State := (s.setReg8 r v).advance L

/-- SETS, SETD of `L` bytes: the value replaces the whole register; no flag (R108). -/
def State.set24 (r : Reg24) (v : Addr) (L : Nat) (s : State) : State := (s.setReg24 r v).advance L

/-- STx of `L` bytes: store 8-bit register `r` at `ea`; no flag (R124). -/
def State.store8 (r : Reg8) (ea : Addr) (L : Nat) (s : State) : State := (s.memWrite ea (s.reg8 r)).advance L

/-- `NOP` (`$00`): "No operator." Does nothing but advance P. R100 -/
def execNop (s : State) : Result := .next (s.advance 1)

/-- `LDA` (`$01`): load A with the memory byte at address S. R102 -/
def execLda (s : State) : Result := .next (s.load8 .A s.sourceAddr 1)

/-- `LDA a8` (`$02`): load A with the zero-page byte at address a8. R103 -/
def execLdaA8 (a8 : Byte) (s : State) : Result := .next (s.load8 .A (zeroPageAddr a8) 2)

/-- `LDB` (`$03`): load B with the memory byte at address S. R104 -/
def execLdb (s : State) : Result := .next (s.load8 .B s.sourceAddr 1)

/-- `LDB a8` (`$04`): load B with the zero-page byte at address a8. R105 -/
def execLdbA8 (a8 : Byte) (s : State) : Result := .next (s.load8 .B (zeroPageAddr a8) 2)

/-- `LDC` (`$05`): load C with the memory byte at address S. R106 -/
def execLdc (s : State) : Result := .next (s.load8 .C s.sourceAddr 1)

/-- `LDC a8` (`$06`): load C with the zero-page byte at address a8. R107 -/
def execLdcA8 (a8 : Byte) (s : State) : Result := .next (s.load8 .C (zeroPageAddr a8) 2)

/-- `SETA i8` (`$07`): set A to an 8-bit immediate. R109 -/
def execSetaI8 (i8 : Byte) (s : State) : Result := .next (s.set8 .A i8 2)

/-- `SETA b` (`$08`): copy B into A. R110 -/
def execSetaB (s : State) : Result := .next (s.set8 .A (s.reg8 .B) 1)

/-- `SETA c` (`$09`): copy C into A. R111 -/
def execSetaC (s : State) : Result := .next (s.set8 .A (s.reg8 .C) 1)

/-- `SETB i8` (`$0A`): set B to an 8-bit immediate. R112 -/
def execSetbI8 (i8 : Byte) (s : State) : Result := .next (s.set8 .B i8 2)

/-- `SETB a` (`$0B`): copy A into B. R113 -/
def execSetbA (s : State) : Result := .next (s.set8 .B (s.reg8 .A) 1)

/-- `SETB c` (`$0C`): copy C into B. R114 -/
def execSetbC (s : State) : Result := .next (s.set8 .B (s.reg8 .C) 1)

/-- `SETC i8` (`$0D`): set C to an 8-bit immediate. R115 -/
def execSetcI8 (i8 : Byte) (s : State) : Result := .next (s.set8 .C i8 2)

/-- `SETC a` (`$0E`): copy A into C. R116 -/
def execSetcA (s : State) : Result := .next (s.set8 .C (s.reg8 .A) 1)

/-- `SETC b` (`$0F`): copy B into C. R117 -/
def execSetcB (s : State) : Result := .next (s.set8 .C (s.reg8 .B) 1)

/-- `SETS i24` (`$10`): set S to a 24-bit immediate. R118 -/
def execSetsI24 (i24 : Addr) (s : State) : Result := .next (s.set24 .S i24 4)

/-- `SETS i16` (`$11`): set S to a 16-bit immediate, zero-extended. R119 -/
def execSetsI16 (i16 : Word16) (s : State) : Result := .next (s.set24 .S (zext24 i16) 3)

/-- `SETS i8` (`$12`): set S to an 8-bit immediate, zero-extended. R120 -/
def execSetsI8 (i8 : Byte) (s : State) : Result := .next (s.set24 .S (zext24 i8) 2)

/-- `SETD i24` (`$13`): set D to a 24-bit immediate. R121 -/
def execSetdI24 (i24 : Addr) (s : State) : Result := .next (s.set24 .D i24 4)

/-- `SETD i16` (`$14`): set D to a 16-bit immediate, zero-extended. R122 -/
def execSetdI16 (i16 : Word16) (s : State) : Result := .next (s.set24 .D (zext24 i16) 3)

/-- `SETD i8` (`$15`): set D to an 8-bit immediate, zero-extended. R123 -/
def execSetdI8 (i8 : Byte) (s : State) : Result := .next (s.set24 .D (zext24 i8) 2)

/-- `STA` (`$16`): store A to the memory byte at address D. R125 -/
def execSta (s : State) : Result := .next (s.store8 .A s.destAddr 1)

/-- `STA a8` (`$17`): store A to the zero-page byte at address a8. R126 -/
def execStaA8 (a8 : Byte) (s : State) : Result := .next (s.store8 .A (zeroPageAddr a8) 2)

/-- `STB` (`$18`): store B to the memory byte at address D. R127 -/
def execStb (s : State) : Result := .next (s.store8 .B s.destAddr 1)

/-- `STB a8` (`$19`): store B to the zero-page byte at address a8. R128 -/
def execStbA8 (a8 : Byte) (s : State) : Result := .next (s.store8 .B (zeroPageAddr a8) 2)

/-- `STC` (`$1A`): store C to the memory byte at address D. R129 -/
def execStc (s : State) : Result := .next (s.store8 .C s.destAddr 1)

/-- `STC a8` (`$1B`): store C to the zero-page byte at address a8. R130 -/
def execStcA8 (a8 : Byte) (s : State) : Result := .next (s.store8 .C (zeroPageAddr a8) 2)

end Sys2Proof.Machine
end

