-- ==== Sys2Proof/Machine/LogicShift.lean ====
section
/-! DEFINITION. TSTx, ANDx, ORx, XORx, NOTx, SHLx, SHRx (`42_logic_shift.md`). -/

namespace Sys2Proof.Machine

/-- TSTx: Z is the complement of bit `ib` of the register, which is not changed (R190). -/
def State.tst8 (r : Reg8) (ib : Nat) (s : State) : State := (s.setFlags (s.F.withTst (s.reg8 r) ib)).advance 1

/-- A logic instruction of `L` bytes stores `res` in the register and writes Z from it (R194, R204, R214, R224, R232). -/
def State.result8 (r : Reg8) (res : Byte) (L : Nat) (s : State) : State :=
  ((s.setReg8 r res).setFlags (s.F.withResult res)).advance L

/-- SHLx: shift left by `n`, zeros enter at bit 0, the bits that leave are lost; no flag (R228). -/
def State.shl8 (r : Reg8) (n : Nat) (s : State) : State := (s.setReg8 r (s.reg8 r <<< n)).advance 1

/-- SHRx: shift right by `n`, zeros enter at bit 7, the bits that leave are lost; writes Z (R232). -/
def State.shr8 (r : Reg8) (n : Nat) (s : State) : State := s.result8 r (s.reg8 r >>> n) 1

/-- `TSTA ib` (`$44..$4B`): test bit ib of A. R191 -/
def execTsta (ib : Nat) (s : State) : Result := .next (s.tst8 .A ib)

/-- `TSTB ib` (`$4C..$53`): test bit ib of B. R192 -/
def execTstb (ib : Nat) (s : State) : Result := .next (s.tst8 .B ib)

/-- `TSTC ib` (`$54..$5B`): test bit ib of C. R193 -/
def execTstc (ib : Nat) (s : State) : Result := .next (s.tst8 .C ib)

/-- `ANDA i8` (`$5C`): bitwise AND of A with an 8-bit immediate. R195 -/
def execAndaI8 (i8 : Byte) (s : State) : Result := .next (s.result8 .A (s.reg8 .A &&& i8) 2)

/-- `ANDA b` (`$5D`): bitwise AND of A with register B. R196 -/
def execAndaB (s : State) : Result := .next (s.result8 .A (s.reg8 .A &&& s.reg8 .B) 1)

/-- `ANDA c` (`$5E`): bitwise AND of A with register C. R197 -/
def execAndaC (s : State) : Result := .next (s.result8 .A (s.reg8 .A &&& s.reg8 .C) 1)

/-- `ANDB i8` (`$5F`): bitwise AND of B with an 8-bit immediate. R198 -/
def execAndbI8 (i8 : Byte) (s : State) : Result := .next (s.result8 .B (s.reg8 .B &&& i8) 2)

/-- `ANDB a` (`$60`): bitwise AND of B with register A. R199 -/
def execAndbA (s : State) : Result := .next (s.result8 .B (s.reg8 .B &&& s.reg8 .A) 1)

/-- `ANDB c` (`$61`): bitwise AND of B with register C. R200 -/
def execAndbC (s : State) : Result := .next (s.result8 .B (s.reg8 .B &&& s.reg8 .C) 1)

/-- `ANDC i8` (`$62`): bitwise AND of C with an 8-bit immediate. R201 -/
def execAndcI8 (i8 : Byte) (s : State) : Result := .next (s.result8 .C (s.reg8 .C &&& i8) 2)

/-- `ANDC a` (`$63`): bitwise AND of C with register A. R202 -/
def execAndcA (s : State) : Result := .next (s.result8 .C (s.reg8 .C &&& s.reg8 .A) 1)

/-- `ANDC b` (`$64`): bitwise AND of C with register B. R203 -/
def execAndcB (s : State) : Result := .next (s.result8 .C (s.reg8 .C &&& s.reg8 .B) 1)

/-- `ORA i8` (`$65`): bitwise inclusive OR of A with an 8-bit immediate. R205 -/
def execOraI8 (i8 : Byte) (s : State) : Result := .next (s.result8 .A (s.reg8 .A ||| i8) 2)

/-- `ORA b` (`$66`): bitwise inclusive OR of A with register B. R206 -/
def execOraB (s : State) : Result := .next (s.result8 .A (s.reg8 .A ||| s.reg8 .B) 1)

/-- `ORA c` (`$67`): bitwise inclusive OR of A with register C. R207 -/
def execOraC (s : State) : Result := .next (s.result8 .A (s.reg8 .A ||| s.reg8 .C) 1)

/-- `ORB i8` (`$68`): bitwise inclusive OR of B with an 8-bit immediate. R208 -/
def execOrbI8 (i8 : Byte) (s : State) : Result := .next (s.result8 .B (s.reg8 .B ||| i8) 2)

/-- `ORB a` (`$69`): bitwise inclusive OR of B with register A. R209 -/
def execOrbA (s : State) : Result := .next (s.result8 .B (s.reg8 .B ||| s.reg8 .A) 1)

/-- `ORB c` (`$6A`): bitwise inclusive OR of B with register C. R210 -/
def execOrbC (s : State) : Result := .next (s.result8 .B (s.reg8 .B ||| s.reg8 .C) 1)

/-- `ORC i8` (`$6B`): bitwise inclusive OR of C with an 8-bit immediate. R211 -/
def execOrcI8 (i8 : Byte) (s : State) : Result := .next (s.result8 .C (s.reg8 .C ||| i8) 2)

/-- `ORC a` (`$6C`): bitwise inclusive OR of C with register A. R212 -/
def execOrcA (s : State) : Result := .next (s.result8 .C (s.reg8 .C ||| s.reg8 .A) 1)

/-- `ORC b` (`$6D`): bitwise inclusive OR of C with register B. R213 -/
def execOrcB (s : State) : Result := .next (s.result8 .C (s.reg8 .C ||| s.reg8 .B) 1)

/-- `XORA i8` (`$6E`): bitwise exclusive OR of A with an 8-bit immediate. R215 -/
def execXoraI8 (i8 : Byte) (s : State) : Result := .next (s.result8 .A (s.reg8 .A ^^^ i8) 2)

/-- `XORA b` (`$6F`): bitwise exclusive OR of A with register B. R216 -/
def execXoraB (s : State) : Result := .next (s.result8 .A (s.reg8 .A ^^^ s.reg8 .B) 1)

/-- `XORA c` (`$70`): bitwise exclusive OR of A with register C. R217 -/
def execXoraC (s : State) : Result := .next (s.result8 .A (s.reg8 .A ^^^ s.reg8 .C) 1)

/-- `XORB i8` (`$71`): bitwise exclusive OR of B with an 8-bit immediate. R218 -/
def execXorbI8 (i8 : Byte) (s : State) : Result := .next (s.result8 .B (s.reg8 .B ^^^ i8) 2)

/-- `XORB a` (`$72`): bitwise exclusive OR of B with register A. R219 -/
def execXorbA (s : State) : Result := .next (s.result8 .B (s.reg8 .B ^^^ s.reg8 .A) 1)

/-- `XORB c` (`$73`): bitwise exclusive OR of B with register C. R220 -/
def execXorbC (s : State) : Result := .next (s.result8 .B (s.reg8 .B ^^^ s.reg8 .C) 1)

/-- `XORC i8` (`$74`): bitwise exclusive OR of C with an 8-bit immediate. R221 -/
def execXorcI8 (i8 : Byte) (s : State) : Result := .next (s.result8 .C (s.reg8 .C ^^^ i8) 2)

/-- `XORC a` (`$75`): bitwise exclusive OR of C with register A. R222 -/
def execXorcA (s : State) : Result := .next (s.result8 .C (s.reg8 .C ^^^ s.reg8 .A) 1)

/-- `XORC b` (`$76`): bitwise exclusive OR of C with register B. R223 -/
def execXorcB (s : State) : Result := .next (s.result8 .C (s.reg8 .C ^^^ s.reg8 .B) 1)

/-- `NOTA` (`$77`): invert all bits of A. R225 -/
def execNota (s : State) : Result := .next (s.result8 .A (s.reg8 .A ^^^ 0xFF#8) 1)

/-- `NOTB` (`$78`): invert all bits of B. R226 -/
def execNotb (s : State) : Result := .next (s.result8 .B (s.reg8 .B ^^^ 0xFF#8) 1)

/-- `NOTC` (`$79`): invert all bits of C. R227 -/
def execNotc (s : State) : Result := .next (s.result8 .C (s.reg8 .C ^^^ 0xFF#8) 1)

/-- `SHLA is` (`$7A..$81`): shift A left by is bits. R229 -/
def execShla (n : Nat) (s : State) : Result := .next (s.shl8 .A n)

/-- `SHLB is` (`$82..$89`): shift B left by is bits. R230 -/
def execShlb (n : Nat) (s : State) : Result := .next (s.shl8 .B n)

/-- `SHLC is` (`$8A..$91`): shift C left by is bits. R231 -/
def execShlc (n : Nat) (s : State) : Result := .next (s.shl8 .C n)

/-- `SHRA is` (`$92..$99`): shift A right by is bits. R233 -/
def execShra (n : Nat) (s : State) : Result := .next (s.shr8 .A n)

/-- `SHRB is` (`$9A..$A1`): shift B right by is bits. R234 -/
def execShrb (n : Nat) (s : State) : Result := .next (s.shr8 .B n)

/-- `SHRC is` (`$A2..$A9`): shift C right by is bits. R235 -/
def execShrc (n : Nat) (s : State) : Result := .next (s.shr8 .C n)

end Sys2Proof.Machine
end

