-- ==== Sys2Proof/Machine/StackFlagsSystem.lean ====
section
/-! DEFINITION. PUSHx, POPx, CLx, RST, HTL (`44_stack_flags_system.md`). -/

namespace Sys2Proof.Machine

/-- A push of one byte by an instruction of `L` bytes; no flag (R290). -/
def State.pushByte (v : Byte) (L : Nat) (s : State) : State := (s.push8 v).advance L

/-- A push of a 24-bit value by a one-byte instruction; no flag (R290). -/
def State.pushWord (w : Addr) (s : State) : State := (s.push24 w).advance 1

/-- A pop of one byte into A, B or C; no flag (R298). -/
def State.popReg8 (r : Reg8) (s : State) : State := (s.pop8.2.setReg8 r s.pop8.1).advance 1

/-- A pop of three bytes into S or D; no flag (R298). -/
def State.popReg24 (r : Reg24) (s : State) : State := (s.pop24.2.setReg24 r s.pop24.1).advance 1

/-- `POP`: the popped byte is stored at D, which is not changed (R304). -/
def State.popMem (s : State) : State := (s.pop8.2.memWrite s.destAddr s.pop8.1).advance 1

/-- `PUSHA` (`$CD`): push A. "Push A to stack and increment stack pointer". R291 -/
def execPusha (s : State) : Result := .next (s.pushByte (s.reg8 .A) 1)

/-- `PUSHB` (`$CE`): push B. "Push B to stack and increment stack pointer". R292 -/
def execPushb (s : State) : Result := .next (s.pushByte (s.reg8 .B) 1)

/-- `PUSHC` (`$CF`): push C. "Push C to stack and increment stack pointer". R293 -/
def execPushc (s : State) : Result := .next (s.pushByte (s.reg8 .C) 1)

/-- `PUSHS` (`$D0`): push S. "Push S to stack and inc. stack p. by 3". R294 -/
def execPushs (s : State) : Result := .next (s.pushWord (s.reg24 .S))

/-- `PUSHD` (`$D1`): push D. "Push D to stack and inc. stack p. by 3". R295 -/
def execPushd (s : State) : Result := .next (s.pushWord (s.reg24 .D))

/-- `PUSHP` (`$D2`): push P. "Push P to stack and inc. stack pointer by 3". R296 -/
def execPushp (s : State) : Result := .next (s.pushWord (s.nextAddr 1))

/-- `PUSH i8` (`$D3`): push an 8-bit immediate. "Push an immediate value to stack". R297 -/
def execPush (i8 : Byte) (s : State) : Result := .next (s.pushByte i8 2)

/-- `POPA` (`$D4`): pop into A. "Pop A from stack and decrement stack pointer". R299 -/
def execPopa (s : State) : Result := .next (s.popReg8 .A)

/-- `POPB` (`$D5`): pop into B. "Pop B from stack and decrement stack pointer". R300 -/
def execPopb (s : State) : Result := .next (s.popReg8 .B)

/-- `POPC` (`$D6`): pop into C. "Pop C from stack and decrement stack pointer". R301 -/
def execPopc (s : State) : Result := .next (s.popReg8 .C)

/-- `POPS` (`$D7`): pop into S. "Pop S from stack and decrement stack p. by 3". R302 -/
def execPops (s : State) : Result := .next (s.popReg24 .S)

/-- `POPD` (`$D8`): pop into D. "Pop D from stack and decrement stack p. by 3". R303 -/
def execPopd (s : State) : Result := .next (s.popReg24 .D)

/-- `POP` (`$D9`): pop one byte to memory at D. "Pop an 8-bit value from stack and store in memory"; "POP will pop the value to memory address pointed by D. D will not be incremented". R304 -/
def execPop (s : State) : Result := .next (s.popMem)

/-- `CLG` (`$DA`): Clear the Greater Flag. R306 -/
def execClg (s : State) : Result := .next ((s.setFlags { s.F with G := false }).advance 1)

/-- `CLE` (`$DB`): Clear the Equal Flag. R307 -/
def execCle (s : State) : Result := .next ((s.setFlags { s.F with E := false }).advance 1)

/-- `CLC` (`$DC`): Clear the Carry Flag. R308 -/
def execClc (s : State) : Result := .next ((s.setFlags { s.F with C := false }).advance 1)

/-- `CLZ` (`$DD`): Clear the Zero Flag. R309 -/
def execClz (s : State) : Result := .next ((s.setFlags { s.F with Z := false }).advance 1)

/-- `CLF` (`$DE`): Clear all flags. R310 -/
def execClf (s : State) : Result := .next ((s.setFlags Flags.clear).advance 1)

/-- `RST` (`$DF`): soft reset. "Perform a soft reset in the processor. (Set P to $040000)". R311 -/
def execRst (s : State) : Result := .next (s.setP Config.resetVector)

/-- `HTL` (`$E0`): halt. "Halt the processor". R312 -/
def execHtl (s : State) : Result := .next ((s.advance 1).halt)

end Sys2Proof.Machine
end

