-- ==== Sys2Proof/Machine/Undefined.lean ====
section
/-! DEFINITION. The undefined opcode bytes `$E1` to `$FF` (`60_exceptions.md` R321). -/

namespace Sys2Proof.Machine

/-- `UNDEFINED` (`$E1..$FF`): an opcode byte no instruction has: raises IllegalOpcode(op, P0). R321 -/
def execUndefined (op : Byte) (s : State) : Result := .next (s.raiseIllegalOpcode op)

end Sys2Proof.Machine
end

