-- ==== Sys2Proof/Machine/Dispatch.lean ====
section
/-! DEFINITION. What each instruction does: one arm per constructor of `Instr`, each one call of its meaning. -/

namespace Sys2Proof.Machine

def exec (i : Instr) (s : State) : Host.Outcome State Fault Refusal :=
  match i with
  -- 40_nop_load_set_store.md: NOP, load, set, store
  | .nop => Sys2Proof.Machine.execNop s
  | .lda => Sys2Proof.Machine.execLda s
  | .ldaA8 a8 => Sys2Proof.Machine.execLdaA8 a8 s
  | .ldb => Sys2Proof.Machine.execLdb s
  | .ldbA8 a8 => Sys2Proof.Machine.execLdbA8 a8 s
  | .ldc => Sys2Proof.Machine.execLdc s
  | .ldcA8 a8 => Sys2Proof.Machine.execLdcA8 a8 s
  | .setaI8 i8 => Sys2Proof.Machine.execSetaI8 i8 s
  | .setaB => Sys2Proof.Machine.execSetaB s
  | .setaC => Sys2Proof.Machine.execSetaC s
  | .setbI8 i8 => Sys2Proof.Machine.execSetbI8 i8 s
  | .setbA => Sys2Proof.Machine.execSetbA s
  | .setbC => Sys2Proof.Machine.execSetbC s
  | .setcI8 i8 => Sys2Proof.Machine.execSetcI8 i8 s
  | .setcA => Sys2Proof.Machine.execSetcA s
  | .setcB => Sys2Proof.Machine.execSetcB s
  | .setsI24 i24 => Sys2Proof.Machine.execSetsI24 i24 s
  | .setsI16 i16 => Sys2Proof.Machine.execSetsI16 i16 s
  | .setsI8 i8 => Sys2Proof.Machine.execSetsI8 i8 s
  | .setdI24 i24 => Sys2Proof.Machine.execSetdI24 i24 s
  | .setdI16 i16 => Sys2Proof.Machine.execSetdI16 i16 s
  | .setdI8 i8 => Sys2Proof.Machine.execSetdI8 i8 s
  | .sta => Sys2Proof.Machine.execSta s
  | .staA8 a8 => Sys2Proof.Machine.execStaA8 a8 s
  | .stb => Sys2Proof.Machine.execStb s
  | .stbA8 a8 => Sys2Proof.Machine.execStbA8 a8 s
  | .stc => Sys2Proof.Machine.execStc s
  | .stcA8 a8 => Sys2Proof.Machine.execStcA8 a8 s
  -- 41_arith.md: integer arithmetic
  | .inca => Sys2Proof.Machine.execInca s
  | .incb => Sys2Proof.Machine.execIncb s
  | .incc => Sys2Proof.Machine.execIncc s
  | .incs => Sys2Proof.Machine.execIncs s
  | .incd => Sys2Proof.Machine.execIncd s
  | .deca => Sys2Proof.Machine.execDeca s
  | .decb => Sys2Proof.Machine.execDecb s
  | .decc => Sys2Proof.Machine.execDecc s
  | .decs => Sys2Proof.Machine.execDecs s
  | .decd => Sys2Proof.Machine.execDecd s
  | .addaI8 i8 => Sys2Proof.Machine.execAddaI8 i8 s
  | .addaB => Sys2Proof.Machine.execAddaB s
  | .addaC => Sys2Proof.Machine.execAddaC s
  | .addbI8 i8 => Sys2Proof.Machine.execAddbI8 i8 s
  | .addbA => Sys2Proof.Machine.execAddbA s
  | .addbC => Sys2Proof.Machine.execAddbC s
  | .addcI8 i8 => Sys2Proof.Machine.execAddcI8 i8 s
  | .addcA => Sys2Proof.Machine.execAddcA s
  | .addcB => Sys2Proof.Machine.execAddcB s
  | .addsI16 i16 => Sys2Proof.Machine.execAddsI16 i16 s
  | .addsI8 i8 => Sys2Proof.Machine.execAddsI8 i8 s
  | .addsA => Sys2Proof.Machine.execAddsA s
  | .adddI16 i16 => Sys2Proof.Machine.execAdddI16 i16 s
  | .adddI8 i8 => Sys2Proof.Machine.execAdddI8 i8 s
  | .adddA => Sys2Proof.Machine.execAdddA s
  | .subaI8 i8 => Sys2Proof.Machine.execSubaI8 i8 s
  | .subaB => Sys2Proof.Machine.execSubaB s
  | .subaC => Sys2Proof.Machine.execSubaC s
  | .subbI8 i8 => Sys2Proof.Machine.execSubbI8 i8 s
  | .subbA => Sys2Proof.Machine.execSubbA s
  | .subbC => Sys2Proof.Machine.execSubbC s
  | .subcI8 i8 => Sys2Proof.Machine.execSubcI8 i8 s
  | .subcA => Sys2Proof.Machine.execSubcA s
  | .subcB => Sys2Proof.Machine.execSubcB s
  | .subsI16 i16 => Sys2Proof.Machine.execSubsI16 i16 s
  | .subsI8 i8 => Sys2Proof.Machine.execSubsI8 i8 s
  | .subsA => Sys2Proof.Machine.execSubsA s
  | .subdI16 i16 => Sys2Proof.Machine.execSubdI16 i16 s
  | .subdI8 i8 => Sys2Proof.Machine.execSubdI8 i8 s
  | .subdA => Sys2Proof.Machine.execSubdA s
  -- 42_logic_shift.md: bit test, logic, shift
  | .tsta ib => Sys2Proof.Machine.execTsta ib s
  | .tstb ib => Sys2Proof.Machine.execTstb ib s
  | .tstc ib => Sys2Proof.Machine.execTstc ib s
  | .andaI8 i8 => Sys2Proof.Machine.execAndaI8 i8 s
  | .andaB => Sys2Proof.Machine.execAndaB s
  | .andaC => Sys2Proof.Machine.execAndaC s
  | .andbI8 i8 => Sys2Proof.Machine.execAndbI8 i8 s
  | .andbA => Sys2Proof.Machine.execAndbA s
  | .andbC => Sys2Proof.Machine.execAndbC s
  | .andcI8 i8 => Sys2Proof.Machine.execAndcI8 i8 s
  | .andcA => Sys2Proof.Machine.execAndcA s
  | .andcB => Sys2Proof.Machine.execAndcB s
  | .oraI8 i8 => Sys2Proof.Machine.execOraI8 i8 s
  | .oraB => Sys2Proof.Machine.execOraB s
  | .oraC => Sys2Proof.Machine.execOraC s
  | .orbI8 i8 => Sys2Proof.Machine.execOrbI8 i8 s
  | .orbA => Sys2Proof.Machine.execOrbA s
  | .orbC => Sys2Proof.Machine.execOrbC s
  | .orcI8 i8 => Sys2Proof.Machine.execOrcI8 i8 s
  | .orcA => Sys2Proof.Machine.execOrcA s
  | .orcB => Sys2Proof.Machine.execOrcB s
  | .xoraI8 i8 => Sys2Proof.Machine.execXoraI8 i8 s
  | .xoraB => Sys2Proof.Machine.execXoraB s
  | .xoraC => Sys2Proof.Machine.execXoraC s
  | .xorbI8 i8 => Sys2Proof.Machine.execXorbI8 i8 s
  | .xorbA => Sys2Proof.Machine.execXorbA s
  | .xorbC => Sys2Proof.Machine.execXorbC s
  | .xorcI8 i8 => Sys2Proof.Machine.execXorcI8 i8 s
  | .xorcA => Sys2Proof.Machine.execXorcA s
  | .xorcB => Sys2Proof.Machine.execXorcB s
  | .nota => Sys2Proof.Machine.execNota s
  | .notb => Sys2Proof.Machine.execNotb s
  | .notc => Sys2Proof.Machine.execNotc s
  | .shla n => Sys2Proof.Machine.execShla n s
  | .shlb n => Sys2Proof.Machine.execShlb n s
  | .shlc n => Sys2Proof.Machine.execShlc n s
  | .shra n => Sys2Proof.Machine.execShra n s
  | .shrb n => Sys2Proof.Machine.execShrb n s
  | .shrc n => Sys2Proof.Machine.execShrc n s
  -- 43_compare_jump.md: compare and control transfer
  | .cmpaI8 i8 => Sys2Proof.Machine.execCmpaI8 i8 s
  | .cmpaB => Sys2Proof.Machine.execCmpaB s
  | .cmpaC => Sys2Proof.Machine.execCmpaC s
  | .cmpbI8 i8 => Sys2Proof.Machine.execCmpbI8 i8 s
  | .cmpbC => Sys2Proof.Machine.execCmpbC s
  | .cmpcI8 i8 => Sys2Proof.Machine.execCmpcI8 i8 s
  | .jmp off => Sys2Proof.Machine.execJmp off s
  | .jmpf off => Sys2Proof.Machine.execJmpf off s
  | .jmpa a24 => Sys2Proof.Machine.execJmpa a24 s
  | .jz off => Sys2Proof.Machine.execJz off s
  | .jzf off => Sys2Proof.Machine.execJzf off s
  | .jza a24 => Sys2Proof.Machine.execJza a24 s
  | .jnz off => Sys2Proof.Machine.execJnz off s
  | .jnzf off => Sys2Proof.Machine.execJnzf off s
  | .jnza a24 => Sys2Proof.Machine.execJnza a24 s
  | .jc off => Sys2Proof.Machine.execJc off s
  | .jcf off => Sys2Proof.Machine.execJcf off s
  | .jca a24 => Sys2Proof.Machine.execJca a24 s
  | .jnc off => Sys2Proof.Machine.execJnc off s
  | .jncf off => Sys2Proof.Machine.execJncf off s
  | .jnca a24 => Sys2Proof.Machine.execJnca a24 s
  | .je off => Sys2Proof.Machine.execJe off s
  | .jef off => Sys2Proof.Machine.execJef off s
  | .jea a24 => Sys2Proof.Machine.execJea a24 s
  | .jne off => Sys2Proof.Machine.execJne off s
  | .jnef off => Sys2Proof.Machine.execJnef off s
  | .jnea a24 => Sys2Proof.Machine.execJnea a24 s
  | .jg off => Sys2Proof.Machine.execJg off s
  | .jgf off => Sys2Proof.Machine.execJgf off s
  | .jga a24 => Sys2Proof.Machine.execJga a24 s
  | .jl off => Sys2Proof.Machine.execJl off s
  | .jlf off => Sys2Proof.Machine.execJlf off s
  | .jla a24 => Sys2Proof.Machine.execJla a24 s
  | .jsr a24 => Sys2Proof.Machine.execJsr a24 s
  | .ret => Sys2Proof.Machine.execRet s
  -- 44_stack_flags_system.md: stack, flag clear, system
  | .pusha => Sys2Proof.Machine.execPusha s
  | .pushb => Sys2Proof.Machine.execPushb s
  | .pushc => Sys2Proof.Machine.execPushc s
  | .pushs => Sys2Proof.Machine.execPushs s
  | .pushd => Sys2Proof.Machine.execPushd s
  | .pushp => Sys2Proof.Machine.execPushp s
  | .push i8 => Sys2Proof.Machine.execPush i8 s
  | .popa => Sys2Proof.Machine.execPopa s
  | .popb => Sys2Proof.Machine.execPopb s
  | .popc => Sys2Proof.Machine.execPopc s
  | .pops => Sys2Proof.Machine.execPops s
  | .popd => Sys2Proof.Machine.execPopd s
  | .pop => Sys2Proof.Machine.execPop s
  | .clg => Sys2Proof.Machine.execClg s
  | .cle => Sys2Proof.Machine.execCle s
  | .clc => Sys2Proof.Machine.execClc s
  | .clz => Sys2Proof.Machine.execClz s
  | .clf => Sys2Proof.Machine.execClf s
  | .rst => Sys2Proof.Machine.execRst s
  | .htl => Sys2Proof.Machine.execHtl s
  -- 60_exceptions.md: undefined opcodes
  | .undefined op => Sys2Proof.Machine.execUndefined op s

end Sys2Proof.Machine
end

