-- ==== Sys2Proof/Machine/Fetch.lean ====
section
/-! DEFINITION. Fetching the instruction at P (`30_encoding.md` R82). -/

namespace Sys2Proof.Machine

/-- The row that the opcode byte at P selects. -/
def State.fetchRow (s : State) : Row := rowOf (s.memRead s.P)

/-- The instruction at P: the opcode byte at `P0`, then only the operand bytes its form has, at `(P0 + k) mod 2^24`
(`30_encoding.md` R72, R82). -/
def State.fetch (s : State) : Instr := s.fetchRow.instr (fun k => s.memRead (s.nextAddr k))

/-- The `n` bytes of memory at ascending addresses from `a`, modulo `2^24`. -/
def State.bytesAt (s : State) : Nat → Addr → List Byte
  | 0, _ => []
  | n + 1, a => s.memRead a :: State.bytesAt s n (a + 1#24)

end Sys2Proof.Machine
end

