-- ==== Sys2Proof/Machine/Step.lean ====
section
/-! DEFINITION. One step of the machine (`30_encoding.md` R82), and an instruction placed where it is fetched. -/

namespace Sys2Proof.Machine

/-- One step. A running machine fetches the instruction at P and executes it (R82). A halted machine takes no step: it
stays as it is (`60_exceptions.md` R325; DESIGN CHOICE, log 4). A faulted machine takes no step and reports the fault it
recorded (R321; DESIGN CHOICE, log 5). -/
def step (s : State) : Host.Outcome State Fault Refusal :=
  match s.run with
  | .running => exec s.fetch s
  | .halted => .next s
  | .faulted op addr => .fault (.illegalOpcode op addr)

/-- The state with an instruction of spec/opcode_table.json (bits `w`, the bits from `nbits` up being 0) in the four
bytes from P, and running, so that the next step fetches and runs it. It stands for the load of a program from outside
(D32; log 6). -/
def State.withFetchWord (s : State) (nbits w : Nat) : State :=
  (s.storeBytes s.P (tableBytes nbits w)).setRun .running

end Sys2Proof.Machine
end

