-- ==== Sys2Proof/Machine/Timing.lean ====
section
/-! DEFINITION. The source's byte and cycle counts (`70_reset_and_hazards.md` R358, R359): informative, outside the
machine state, and read by no step. -/

namespace Sys2Proof.Machine

/-- The byte count of an instruction: the "Bytes" figure of its form (`30_encoding.md` R70). -/
def byteCount (i : Instr) : Nat := (encode i).length

/-- The "Cycles" figure of an instruction: its byte count, but for the seven forms the source marks with 7 or 4
(R358). An undefined byte has none. It does not depend on operand values or on whether a jump is taken. -/
def cycleCount (i : Instr) : Option Nat :=
  match i with
  | .jsr _ | .ret => some 7
  | .pushs | .pushd | .pushp | .pops | .popd => some 4
  | .undefined _ => none
  | i => some (byteCount i)

/-- The cycles the step from a state takes: those of the instruction a running machine fetches (R358). -/
def stepCycles (s : State) : Option Nat :=
  match s.run with
  | .running => cycleCount s.fetch
  | .halted => some 0
  | .faulted _ _ => none

end Sys2Proof.Machine
end

