-- ==== Sys2Proof/Safety.lean ====
section
/-! DEFINITION. What counts as a safe run, the invariant of the model, and the words the statements are written in. -/

namespace Sys2Proof.Machine

/-- The run has ended normally (`60_exceptions.md` R326). -/
def State.EndedNormally (s : State) : Prop := s.run = .halted

/-- The run has gone wrong (`60_exceptions.md` R326). -/
def State.GoneWrong (s : State) : Prop := ∃ op addr, s.run = .faulted op addr

/-- The invariant: memory is in its canonical form, and a faulted machine's P is at the byte it recorded, which is one
of the undefined bytes `$E1` to `$FF` and still stands there (`60_exceptions.md` R321). -/
def State.Inv (s : State) : Prop :=
  Memory.wf s.mem = true ∧
    ∀ op addr, s.run = .faulted op addr → addr = s.P ∧ s.memRead addr = op ∧ 0xE1 ≤ op.toNat

end Sys2Proof.Machine

namespace Sys2Proof.Claims

open Sys2Proof.Machine

/-! ### The parts of the state -/

/-- The parts of State a frame speaks of. -/
inductive Part where
  | A
  | B
  | C
  | S
  | D
  | T
  | P
  | G
  | E
  | carry
  | Z
  | run
  | mem
  | stackBase
  deriving DecidableEq, Repr

/-- The part is the same in both states; for memory, every byte reads the same. -/
def Part.Same (p : Part) (s t : State) : Prop :=
  match p with
  | .A => t.A = s.A
  | .B => t.B = s.B
  | .C => t.C = s.C
  | .S => t.S = s.S
  | .D => t.D = s.D
  | .T => t.T = s.T
  | .P => t.P = s.P
  | .G => t.F.G = s.F.G
  | .E => t.F.E = s.F.E
  | .carry => t.F.C = s.F.C
  | .Z => t.F.Z = s.F.Z
  | .run => t.run = s.run
  | .mem => ∀ a : Addr, t.memRead a = s.memRead a
  | .stackBase => t.stackBase = s.stackBase

/-- Every part but the listed ones is the same in `t` as in `s`. -/
def ChangesOnly (parts : List Part) (s t : State) : Prop := ∀ p, p ∉ parts → p.Same s t

/-- P has moved past an instruction of `n` bytes, modulo `2^24` (`10_state.md` R16, R17). -/
def MovesOn (n : Nat) (s t : State) : Prop := t.P.toNat = (s.P.toNat + n) % 2 ^ 24

/-- P has moved past an instruction of `n` bytes that ends below the top of memory (`10_state.md` R16). What P does at the
top of memory is `MovesOn`'s (the spec's decision D6, log 12). -/
def Advances (n : Nat) (s t : State) : Prop := s.P.toNat + n < 2 ^ 24 → t.P.toNat = s.P.toNat + n

/-! ### Forms: an instruction, its bytes, what it does -/

/-- The bytes are the encoding of `i`, the decoder reads `i` from them whatever follows, and from every state `i` answers a
next state related to it by `post`. -/
def Form (i : Instr) (bytes : List Byte) (post : State → State → Prop) : Prop :=
  encode i = bytes ∧ (∀ rest, decode (bytes ++ rest) = .ok (i, rest)) ∧ ∀ s, ∃ t, exec i s = .next t ∧ post s t

/-- `imm16` as a number (`30_encoding.md` R72). -/
def num16 (b1 b2 : Byte) : Nat := b1.toNat * 256 + b2.toNat

/-- `imm24` as a number (`30_encoding.md` R72). -/
def num24 (b1 b2 b3 : Byte) : Nat := b1.toNat * 65536 + b2.toNat * 256 + b3.toNat

/-- A load into `part` from the address `ea s`: the byte, Z from it, nothing else (R101). -/
def LoadForm (i : Instr) (bytes : List Byte) (get : State → Byte) (part : Part) (ea : State → Addr) : Prop :=
  Form i bytes fun s t =>
    get t = s.memRead (ea s) ∧ (t.F.Z = true ↔ s.memRead (ea s) = 0#8) ∧ MovesOn bytes.length s t ∧
      ChangesOnly [part, .Z, .P] s t

/-- `part` is set to the number `v s`; no flag (R108). -/
def SetForm {w : Nat} (i : Instr) (bytes : List Byte) (get : State → BitVec w) (part : Part) (v : State → Nat) : Prop :=
  Form i bytes fun s t => (get t).toNat = v s ∧ MovesOn bytes.length s t ∧ ChangesOnly [part, .P] s t

/-- A store of the byte `v s` at the address `ea s`: that byte of memory and no other, no flag, no register (R124). -/
def StoreForm (i : Instr) (bytes : List Byte) (v : State → Byte) (ea : State → Addr) : Prop :=
  Form i bytes fun s t =>
    t.memRead (ea s) = v s ∧ (∀ a, a ≠ ea s → t.memRead a = s.memRead a) ∧ MovesOn bytes.length s t ∧
      ChangesOnly [.mem, .P] s t

/-- `part` plus 1 modulo `2^w`; carry exactly from the maximum; Z kept (R141). -/
def IncForm {w : Nat} (i : Instr) (bytes : List Byte) (get : State → BitVec w) (part : Part) : Prop :=
  Form i bytes fun s t =>
    (get t).toNat = ((get s).toNat + 1) % 2 ^ w ∧ (t.F.C = true ↔ (get s).toNat = 2 ^ w - 1) ∧
      Advances bytes.length s t ∧ ChangesOnly [part, .carry, .P] s t

/-- `part` minus 1 modulo `2^w`; carry exactly from 0; Z exactly from 1 (R147). -/
def DecForm {w : Nat} (i : Instr) (bytes : List Byte) (get : State → BitVec w) (part : Part) : Prop :=
  Form i bytes fun s t =>
    (get t).toNat = ((get s).toNat + (2 ^ w - 1)) % 2 ^ w ∧ (t.F.C = true ↔ (get s).toNat = 0) ∧
      (t.F.Z = true ↔ (get s).toNat = 1) ∧ MovesOn bytes.length s t ∧ ChangesOnly [part, .carry, .Z, .P] s t

/-- `part` plus the number `v s` modulo `2^w`; carry exactly when the true sum exceeds the maximum; Z kept (R153). -/
def AddForm {w : Nat} (i : Instr) (bytes : List Byte) (get : State → BitVec w) (part : Part) (v : State → Nat) : Prop :=
  Form i bytes fun s t =>
    (get t).toNat = ((get s).toNat + v s) % 2 ^ w ∧ (t.F.C = true ↔ 2 ^ w - 1 < (get s).toNat + v s) ∧
      MovesOn bytes.length s t ∧ ChangesOnly [part, .carry, .P] s t

/-- `part` minus the number `v s` modulo `2^w`; carry exactly on a borrow; Z exactly when they are equal (R169). -/
def SubForm {w : Nat} (i : Instr) (bytes : List Byte) (get : State → BitVec w) (part : Part) (v : State → Nat) : Prop :=
  Form i bytes fun s t =>
    ((get t).toNat : Int) = (((get s).toNat : Int) - (v s : Int)) % 2 ^ w ∧ (t.F.C = true ↔ (get s).toNat < v s) ∧
      (t.F.Z = true ↔ (get s).toNat = v s) ∧ MovesOn bytes.length s t ∧ ChangesOnly [part, .carry, .Z, .P] s t

/-- A logic operation: bit `k` of the result is `bit` of the two operands' bits, Z exactly when every bit of the result is
0 (R194, R204, R214, R224). -/
def LogicForm (i : Instr) (bytes : List Byte) (get : State → Byte) (part : Part) (v : State → Byte)
    (bit : Bool → Bool → Bool) : Prop :=
  Form i bytes fun s t =>
    (∀ k, k < 8 → (get t).getLsbD k = bit ((get s).getLsbD k) ((v s).getLsbD k)) ∧
      (t.F.Z = true ↔ ∀ k, k < 8 → bit ((get s).getLsbD k) ((v s).getLsbD k) = false) ∧
      Advances bytes.length s t ∧ ChangesOnly [part, .Z, .P] s t

/-- A bit test: Z is the complement of bit `ib` (R190). -/
def TestForm (i : Instr) (bytes : List Byte) (get : State → Byte) (ib : Nat) : Prop :=
  Form i bytes fun s t =>
    (t.F.Z = true ↔ (get s).toNat / 2 ^ ib % 2 = 0) ∧ MovesOn bytes.length s t ∧ ChangesOnly [.Z, .P] s t

/-- A left shift by `n`: `(x * 2^n) mod 256`, no flag (R228). -/
def ShiftLeftForm (i : Instr) (bytes : List Byte) (get : State → Byte) (part : Part) (n : Nat) : Prop :=
  Form i bytes fun s t =>
    (get t).toNat = (get s).toNat * 2 ^ n % 256 ∧ MovesOn bytes.length s t ∧ ChangesOnly [part, .P] s t

/-- A right shift by `n`: `floor(x / 2^n)`, Z exactly when `x < 2^n` (R232, R233). -/
def ShiftRightForm (i : Instr) (bytes : List Byte) (get : State → Byte) (part : Part) (n : Nat) : Prop :=
  Form i bytes fun s t =>
    (get t).toNat = (get s).toNat / 2 ^ n ∧ (t.F.Z = true ↔ (get s).toNat < 2 ^ n) ∧ MovesOn bytes.length s t ∧
      ChangesOnly [part, .Z, .P] s t

/-- A compare with the number `v s`, unsigned (R240). -/
def CompareForm (i : Instr) (bytes : List Byte) (get : State → Byte) (v : State → Nat) : Prop :=
  Form i bytes fun s t =>
    (t.F.G = true ↔ v s < (get s).toNat) ∧ (t.F.E = true ↔ (get s).toNat = v s) ∧ MovesOn bytes.length s t ∧
      ChangesOnly [.G, .E, .P] s t

/-- A jump taken when `taken` holds of the flags: then P is the number `target s`, else the next instruction; nothing but P
changes (R247, R248). -/
def JumpForm (i : Instr) (bytes : List Byte) (taken : Flags → Prop) (target : State → Int) : Prop :=
  Form i bytes fun s t =>
    (taken s.F → (t.P.toNat : Int) = target s) ∧ (¬ taken s.F → MovesOn bytes.length s t) ∧ ChangesOnly [.P] s t

/-- The signed offset a near jump's operand byte means (`30_encoding.md` R75). -/
def offset8 (b : Byte) : Int := if b.toNat < 128 then b.toNat else (b.toNat : Int) - 256

/-- The signed offset a far jump's operand means (`30_encoding.md` R75). -/
def offset16 (b1 b2 : Byte) : Int := if num16 b1 b2 < 32768 then num16 b1 b2 else (num16 b1 b2 : Int) - 65536

/-- A near jump: the offset counts from the next instruction, modulo `2^24` (R247). -/
def NearJump (i : Byte → Instr) (op : Byte) (taken : Flags → Prop) : Prop :=
  ∀ b1, JumpForm (i b1) [op, b1] taken fun s => (s.P.toNat + 2 + offset8 b1) % 2 ^ 24

/-- A far jump (R247). -/
def FarJump (i : Word16 → Instr) (op : Byte) (taken : Flags → Prop) : Prop :=
  ∀ b1 b2, JumpForm (i (b1 ++ b2)) [op, b1, b2] taken fun s => (s.P.toNat + 3 + offset16 b1 b2) % 2 ^ 24

/-- An absolute jump (R247). -/
def AbsJump (i : Addr → Instr) (op : Byte) (taken : Flags → Prop) : Prop :=
  ∀ b1 b2 b3, JumpForm (i (b1 ++ b2 ++ b3)) [op, b1, b2, b3] taken fun _ => num24 b1 b2 b3

/-- Where `target` is not the address after a jump of `L` bytes: exactly one of the jumps `js` ends with P at `target`, and
every other one with P at the address after the jump (R248). -/
def ExactlyOneJumps (js : List Instr) (target : Addr) (L : Nat) (t : State) : Prop :=
  target ≠ t.nextAddr L →
    ∃ j ∈ js, ∀ k ∈ js, ∃ u, exec k t = .next u ∧ (u.P = target ↔ k = j) ∧ (k ≠ j → u.P = t.nextAddr L)

/-- Memory of `t` against `s`: the three stack bytes from the position `s.T` hold the 24-bit number `w`, most significant
byte first, every other byte is as before, and T has grown by 3 modulo 4096 (`20_memory.md` R47). -/
def Pushed24 (w : Nat) (s t : State) : Prop :=
  (t.memRead (s.stackAddr s.T)).toNat = w / 65536 % 256 ∧
    (t.memRead (s.stackAddr (s.T + 1#12))).toNat = w / 256 % 256 ∧
    (t.memRead (s.stackAddr (s.T + 2#12))).toNat = w % 256 ∧
    (∀ a, a ≠ s.stackAddr s.T → a ≠ s.stackAddr (s.T + 1#12) → a ≠ s.stackAddr (s.T + 2#12) →
      t.memRead a = s.memRead a) ∧
    t.T.toNat = (s.T.toNat + 3) % 4096

/-- The 24-bit number in the three stack bytes below the position `s.T` (`20_memory.md` R47). -/
def top24 (s : State) : Nat :=
  num24 (s.memRead (s.stackAddr (s.T - 3#12))) (s.memRead (s.stackAddr (s.T - 2#12)))
    (s.memRead (s.stackAddr (s.T - 1#12)))

/-- A push of the byte `v s` (`20_memory.md` R45). -/
def PushForm (i : Instr) (bytes : List Byte) (v : State → Byte) : Prop :=
  Form i bytes fun s t =>
    t.memRead (s.stackAddr s.T) = v s ∧ (∀ a, a ≠ s.stackAddr s.T → t.memRead a = s.memRead a) ∧
      t.T.toNat = (s.T.toNat + 1) % 4096 ∧ MovesOn bytes.length s t ∧ ChangesOnly [.mem, .T, .P] s t

/-- A push of the 24-bit number `w s` (`20_memory.md` R47). -/
def PushWideForm (i : Instr) (bytes : List Byte) (w : State → Nat) : Prop :=
  Form i bytes fun s t => Pushed24 (w s) s t ∧ MovesOn bytes.length s t ∧ ChangesOnly [.mem, .T, .P] s t

/-- A pop of one byte into `part`: the byte at the position the new T selects (`20_memory.md` R46). -/
def PopForm (i : Instr) (bytes : List Byte) (get : State → Byte) (part : Part) : Prop :=
  Form i bytes fun s t =>
    get t = s.memRead (s.stackAddr t.T) ∧ t.T.toNat = (s.T.toNat + 4095) % 4096 ∧ MovesOn bytes.length s t ∧
      ChangesOnly [part, .T, .P] s t

/-- A pop of three bytes into `part` (`20_memory.md` R47). -/
def PopWideForm (i : Instr) (bytes : List Byte) (get : State → Addr) (part : Part) : Prop :=
  Form i bytes fun s t =>
    (get t).toNat = top24 s ∧ t.T.toNat = (s.T.toNat + 4093) % 4096 ∧ MovesOn bytes.length s t ∧
      ChangesOnly [part, .T, .P] s t

/-- A flag clear: the listed flags become 0 (R305). -/
def ClearForm (i : Instr) (bytes : List Byte) (flag : Flags → Bool) (part : Part) : Prop :=
  Form i bytes fun s t => flag t.F = false ∧ MovesOn bytes.length s t ∧ ChangesOnly [part, .P] s t

/-! ### Sequences -/

/-- The instructions executed one after the other, stopping at the first that does not answer a next state. -/
def execs : List Instr → State → Result
  | [], s => .next s
  | i :: is, s =>
    match exec i s with
    | .next t => execs is t
    | .fault r => .fault r
    | .refused r => .refused r

/-- `k` steps of the machine, stopping at the first that does not answer a next state (`Host.Core.run` of `core`). -/
def steps : Nat → State → Result
  | 0, s => .next s
  | k + 1, s =>
    match step s with
    | .next t => steps k t
    | .fault r => .fault r
    | .refused r => .refused r

/-! ### Tables of the spec over all instructions -/

/-- The parts each instruction may write: the "w" entries of the access summary (`10_state.md` R25), with P for every
instruction and the run state for `HTL` (R325) and the undefined bytes (R321), which leave P. -/
def mayWrite : Instr → List Part
  | .nop => [.P]
  | .lda | .ldaA8 _ => [.A, .Z, .P]
  | .ldb | .ldbA8 _ => [.B, .Z, .P]
  | .ldc | .ldcA8 _ => [.C, .Z, .P]
  | .setaI8 _ | .setaB | .setaC => [.A, .P]
  | .setbI8 _ | .setbA | .setbC => [.B, .P]
  | .setcI8 _ | .setcA | .setcB => [.C, .P]
  | .setsI24 _ | .setsI16 _ | .setsI8 _ => [.S, .P]
  | .setdI24 _ | .setdI16 _ | .setdI8 _ => [.D, .P]
  | .sta | .staA8 _ | .stb | .stbA8 _ | .stc | .stcA8 _ => [.mem, .P]
  | .inca | .addaI8 _ | .addaB | .addaC => [.A, .carry, .P]
  | .incb | .addbI8 _ | .addbA | .addbC => [.B, .carry, .P]
  | .incc | .addcI8 _ | .addcA | .addcB => [.C, .carry, .P]
  | .incs | .addsI16 _ | .addsI8 _ | .addsA => [.S, .carry, .P]
  | .incd | .adddI16 _ | .adddI8 _ | .adddA => [.D, .carry, .P]
  | .deca | .subaI8 _ | .subaB | .subaC => [.A, .carry, .Z, .P]
  | .decb | .subbI8 _ | .subbA | .subbC => [.B, .carry, .Z, .P]
  | .decc | .subcI8 _ | .subcA | .subcB => [.C, .carry, .Z, .P]
  | .decs | .subsI16 _ | .subsI8 _ | .subsA => [.S, .carry, .Z, .P]
  | .decd | .subdI16 _ | .subdI8 _ | .subdA => [.D, .carry, .Z, .P]
  | .tsta _ | .tstb _ | .tstc _ => [.Z, .P]
  | .andaI8 _ | .andaB | .andaC | .oraI8 _ | .oraB | .oraC | .xoraI8 _ | .xoraB | .xoraC | .nota | .shra _ => [.A, .Z, .P]
  | .andbI8 _ | .andbA | .andbC | .orbI8 _ | .orbA | .orbC | .xorbI8 _ | .xorbA | .xorbC | .notb | .shrb _ => [.B, .Z, .P]
  | .andcI8 _ | .andcA | .andcB | .orcI8 _ | .orcA | .orcB | .xorcI8 _ | .xorcA | .xorcB | .notc | .shrc _ => [.C, .Z, .P]
  | .shla _ => [.A, .P]
  | .shlb _ => [.B, .P]
  | .shlc _ => [.C, .P]
  | .cmpaI8 _ | .cmpaB | .cmpaC | .cmpbI8 _ | .cmpbC | .cmpcI8 _ => [.G, .E, .P]
  | .jmp _ | .jmpf _ | .jmpa _ | .jz _ | .jzf _ | .jza _ | .jnz _ | .jnzf _ | .jnza _ => [.P]
  | .jc _ | .jcf _ | .jca _ | .jnc _ | .jncf _ | .jnca _ | .je _ | .jef _ | .jea _ => [.P]
  | .jne _ | .jnef _ | .jnea _ | .jg _ | .jgf _ | .jga _ | .jl _ | .jlf _ | .jla _ => [.P]
  | .jsr _ => [.mem, .T, .P]
  | .ret => [.T, .P]
  | .pusha | .pushb | .pushc | .pushs | .pushd | .pushp | .push _ => [.mem, .T, .P]
  | .popa => [.A, .T, .P]
  | .popb => [.B, .T, .P]
  | .popc => [.C, .T, .P]
  | .pops => [.S, .T, .P]
  | .popd => [.D, .T, .P]
  | .pop => [.mem, .T, .P]
  | .clg => [.G, .P]
  | .cle => [.E, .P]
  | .clc => [.carry, .P]
  | .clz => [.Z, .P]
  | .clf => [.G, .E, .carry, .Z, .P]
  | .rst => [.P]
  | .htl => [.run, .P]
  | .undefined _ => [.run]

/-- The addresses an instruction may store to, computed as its meaning computes them (`20_memory.md` R50, R56). -/
def mayStoreTo (i : Instr) (s : State) : List Addr :=
  match i with
  | .sta | .stb | .stc | .pop => [s.destAddr]
  | .staA8 a8 | .stbA8 a8 | .stcA8 a8 => [zeroPageAddr a8]
  | .pusha | .pushb | .pushc | .push _ => [s.stackAddr s.T]
  | .pushs | .pushd | .pushp | .jsr _ => [s.stackAddr s.T, s.stackAddr (s.T + 1#12), s.stackAddr (s.T + 2#12)]
  | _ => []

/-- The conditional jumps: the only readers of the flags (`10_state.md` R21). -/
def isConditionalJump : Instr → Bool
  | .jz _ | .jzf _ | .jza _ | .jnz _ | .jnzf _ | .jnza _ | .jc _ | .jcf _ | .jca _ | .jnc _ | .jncf _ | .jnca _ => true
  | .je _ | .jef _ | .jea _ | .jne _ | .jnef _ | .jnea _ | .jg _ | .jgf _ | .jga _ | .jl _ | .jlf _ | .jla _ => true
  | _ => false

/-- The instructions that need not end with P at the next instruction: the jumps, JSR, RET, RST (`10_state.md` R17) and
the undefined bytes, which leave P (R321). -/
def leavesSequence : Instr → Bool
  | .jmp _ | .jmpf _ | .jmpa _ | .jsr _ | .ret | .rst | .undefined _ => true
  | i => isConditionalJump i

end Sys2Proof.Claims
end

