-- ==== Sys2Proof/Certificates/Slice0/Obligations.lean ====
section
/-! DEFINITION. The statements for the provers. Their words (Form, ChangesOnly, MovesOn, ...) are in Sys2Proof/Safety.lean. -/

open Sys2Proof Sys2Proof.Machine Sys2Proof.Claims

/-- If the machine is running and the four bytes of memory from P (addresses modulo 2^24) decode to an instruction i,
whatever bytes follow it, then step at that state is exec of i at that state. exec itself moves P past the
instruction; step adds nothing around it. The rule carries the spec's own decisions D4 and D25.
Basis: derived; 30_encoding.md R82, 30_encoding.md R70, 30_encoding.md R72. -/
def Obligations.StepRunsTheDecodedInstruction : Prop :=
  ∀ (s : State) (i : Instr) (rest : List Byte), s.run = .running → decode (s.bytesAt 4 s.P) = .ok (i, rest) →
    step s = exec i s

/-- NOP is $00; LDA $10 is $02 $10; SETS $041234 is $10 $04 $12 $34; ADDS $0100 is $2F $01 $00; TSTA 7 is $4B; SHLC 7 is
$90; SHRA 1 is $92; JNZ -16 is $B6 $F0; JSR $040200 is $CB $04 $02 $00; PUSHP is $D2; HTL is $E0; $E1 is no
instruction's opcode. The ib and is order is the spec's decision D12, the operand byte order its decision D2.
Basis: derived; 30_encoding.md R71, 30_encoding.md R72, 30_encoding.md R80. -/
def Obligations.WrittenOutWordsDecode : Prop :=
  decode [0x00#8] = .ok (.nop, []) ∧ decode [0x02#8, 0x10#8] = .ok (.ldaA8 0x10#8, []) ∧
    decode [0x10#8, 0x04#8, 0x12#8, 0x34#8] = .ok (.setsI24 0x041234#24, []) ∧
    decode [0x2F#8, 0x01#8, 0x00#8] = .ok (.addsI16 0x0100#16, []) ∧ decode [0x4B#8] = .ok (.tsta 7, []) ∧
    decode [0x90#8] = .ok (.shlc 7, []) ∧ decode [0x92#8] = .ok (.shra 1, []) ∧
    decode [0xB6#8, 0xF0#8] = .ok (.jnz 0xF0#8, []) ∧
    decode [0xCB#8, 0x04#8, 0x02#8, 0x00#8] = .ok (.jsr 0x040200#24, []) ∧ decode [0xD2#8] = .ok (.pushp, []) ∧
    decode [0xE0#8] = .ok (.htl, []) ∧ decode [0xE1#8] = .ok (.undefined 0xE1#8, [])

/-- For every well-formed instruction i, with every operand at every value the encoding admits, and whatever bytes follow:
the decoder reads i from the bytes of encode i and leaves the bytes that follow.
Basis: derived; 30_encoding.md R71, 30_encoding.md R72, 30_encoding.md R77, 30_encoding.md R78, 30_encoding.md R80, 30_encoding.md R81. -/
def Obligations.DecodingAnEncodedInstructionGivesItBack : Prop :=
  ∀ (i : Instr) (rest : List Byte), i.wellFormed = true → decode (encode i ++ rest) = .ok (i, rest)

/-- Whatever the decoder reads from a list of bytes is a well-formed instruction, its encoding is exactly the bytes it was
read from, and the bytes after them are left. So no two byte sequences spell the same instruction and no bit of an
encoding is dropped.
Basis: derived; 30_encoding.md R70, 30_encoding.md R71, 30_encoding.md R72, 30_encoding.md R79, 30_encoding.md R80. -/
def Obligations.EncodingADecodedInstructionGivesTheBytesBack : Prop :=
  ∀ (bytes rest : List Byte) (i : Instr), decode bytes = .ok (i, rest) → i.wellFormed = true ∧ encode i ++ rest = bytes

/-- Any four bytes decode to an instruction i of length 1 to 4, and i is an undefined opcode exactly when the first byte
is $E1 to $FF; it then carries that byte and no other. That such a byte is an instruction term of one byte is DESIGN
CHOICE, log 5 (by the spec's decision D20 it is no instruction and raises IllegalOpcode).
Basis: derived; 30_encoding.md R70, 30_encoding.md R80, 30_encoding.md R81, 95_test_vectors.md section 5. -/
def Obligations.FourBytesAlwaysHoldAnInstruction : Prop :=
  ∀ b0 b1 b2 b3 : Byte, ∃ i rest, decode [b0, b1, b2, b3] = .ok (i, rest) ∧
    1 ≤ (encode i).length ∧ (encode i).length ≤ 4 ∧ rest = [b0, b1, b2, b3].drop (encode i).length ∧
    ((∃ op, i = .undefined op) ↔ 0xE1 ≤ b0.toNat) ∧ ∀ op, i = .undefined op → op = b0

/-- If two states have the same P and read the same byte at each of the addresses P0, P0+1, ... (modulo 2^24) of the
instruction that the first fetches, the second fetches the same instruction: bytes beyond the instruction are not
touched.
Basis: derived; 30_encoding.md R82, 30_encoding.md R70. -/
def Obligations.FetchReadsOnlyTheInstructionsBytes : Prop :=
  ∀ s t : State, t.P = s.P → (∀ k, k < (encode s.fetch).length → t.memRead (s.nextAddr k) = s.memRead (s.nextAddr k)) →
    t.fetch = s.fetch

/-- From every state, storing the bytes of an opcode-table word where the next step fetches (and setting the machine
running) makes that step execute exactly the instruction the decoder reads from the word, also where the bytes
straddle $FFFFFF. Placing the program from outside is the model's choice, log 6 (the spec's D32).
Basis: derived; 30_encoding.md R72, 30_encoding.md R82, 92_eei_decisions.md D32. -/
def Obligations.PlacedTableWordIsWhatTheNextStepRuns : Prop :=
  ∀ (s : State) (nbits w : Nat) (i : Instr), decodeTableWord nbits w = some i →
    step (s.withFetchWord nbits w) = exec i (s.withFetchWord nbits w)

/-- State.reset has P = $040000, T = 0 and run state running: the spec's decision D17 (log 10), not the source's words.
That no byte of memory is written is the model's own, DESIGN CHOICE, logs 2 and 6: R353 and D17 leave memory
unspecified and have the platform place the program image there, which the model leaves to a load from outside. The
values the model chose for A, B, C, S, D, the flags and STACK_BASE (logs 1 and 3) are not stated here.
Basis: derived; 70_reset_and_hazards.md R350, 70_reset_and_hazards.md R351, 70_reset_and_hazards.md R353. -/
def Obligations.ResetStartsAtTheVectorWithAnEmptyStack : Prop :=
  State.reset.P.toNat = 0x040000 ∧ State.reset.T.toNat = 0 ∧ State.reset.run = .running ∧
    ∀ a, Memory.lookup State.reset.mem a = none

/-- State.reset meets State.Inv: memory in canonical form, and a faulted machine (it is not one) stands at the byte it
recorded.
Basis: derived; 20_memory.md R41, 60_exceptions.md R321, 70_reset_and_hazards.md R353. -/
def Obligations.InvariantHoldsAtReset : Prop :=
  State.reset.Inv

/-- State.Inv (memory strictly rising in addresses below 2^24; where the run state is faulted(byte, address), the address
is P, the byte still stands there and is $E1 to $FF) is kept by every step, from every state that meets it, not only
from reset. The faulted clause formalises the spec's decision D20 (log 5).
Basis: derived; 20_memory.md R40, 20_memory.md R41, 30_encoding.md R81, 60_exceptions.md R321. -/
def Obligations.EveryStepKeepsTheInvariant : Prop :=
  ∀ s t : State, s.Inv → step s = .next t → t.Inv

/-- From every state a step answers a next state, except where the run state is faulted(op, addr): there it answers the
fault illegalOpcode(op, addr). No step is refused. (How a faulted machine reports is DESIGN CHOICE, log 5; that a
halted machine answers itself is DESIGN CHOICE, log 4.)
Basis: derived; 60_exceptions.md R320, 60_exceptions.md R321, 60_exceptions.md R332. -/
def Obligations.OnlyAFaultedMachineStops : Prop :=
  ∀ s : State, (∃ t, step s = .next t ∧ ¬ s.GoneWrong) ∨
    ∃ op addr, s.run = .faulted op addr ∧ step s = .fault (.illegalOpcode op addr)

/-- For every instruction term and every state, exec answers a next state: no operand, address, result or stack position
makes an instruction fail. For the 162 defined forms this is R320: the source gives them no exception. Two parts of it
are the model's own: that an undefined byte answers a next state, with run state faulted, is DESIGN CHOICE, log 5 (the
spec's decision D20 raises IllegalOpcode and takes no further step), and that a term no encoding spells answers one is
DESIGN CHOICE, log 19.
Basis: derived; 60_exceptions.md R320. -/
def Obligations.NoInstructionFails : Prop :=
  ∀ (i : Instr) (s : State), ∃ t, exec i s = .next t

/-- After one step of a running machine: it is halted exactly when the opcode byte at P was $E0 (HTL); it is faulted
exactly when that byte was $E1 to $FF, and then it recorded that byte and P and every part of the state but the run
state is as before; otherwise it is running. That $E1 to $FF fault is the spec's decision D20; that the faulted
machine is shown as the NEXT state of that step is DESIGN CHOICE, log 5. What the halted state is, is the spec's
decision D19 (log 4).
Basis: derived; 10_state.md R22, 30_encoding.md R81, 30_encoding.md R82, 60_exceptions.md R321, 60_exceptions.md R325. -/
def Obligations.RunStateIsLeftOnlyByHaltAndUndefinedBytes : Prop :=
  ∀ s t : State, s.run = .running → step s = .next t →
    (t.EndedNormally ↔ s.memRead s.P = 0xE0#8) ∧ (t.GoneWrong ↔ 0xE1 ≤ (s.memRead s.P).toNat) ∧
    (t.GoneWrong → t.run = .faulted (s.memRead s.P) s.P ∧ ChangesOnly [.run] s t) ∧
    ((s.memRead s.P).toNat < 0xE0 → t.run = .running)

/-- However many steps are asked of a halted machine, the state is unchanged (halted is final, D19); any positive number
of steps of a faulted machine answers the fault it recorded. That "no step" is shown as an unchanged state and as a
fault is the model's choice, logs 4 and 5.
Basis: derived; 60_exceptions.md R321, 60_exceptions.md R325, 60_exceptions.md R326. -/
def Obligations.HaltedStaysAndFaultedStops : Prop :=
  (∀ (s : State) (k : Nat), s.EndedNormally → steps k s = .next s) ∧
    ∀ (s : State) (k : Nat) (op : Byte) (addr : Addr), s.run = .faulted op addr →
      steps (k + 1) s = .fault (.illegalOpcode op addr)

/-- For every instruction and every state: the parts of the next state outside the instruction's row of the access summary
(registers, each flag by itself, T, P, memory as a whole, run state, STACK_BASE) are as before. So only the pushes,
pops, JSR and RET change T, and each flag has only the writers rule R21 names. Some rows are not the source's: that
RST writes P only is the spec's decision D18 (log 11); that an undefined byte, as a term with a next state, writes the
run state only is D20 and DESIGN CHOICE, log 5; that HTL writes the run state and P is D19 (log 4); that STACK_BASE is
a part of State, which nothing writes, is DESIGN CHOICE, log 3; terms that no encoding spells are log 19.
Basis: derived; 10_state.md R21, 10_state.md R25, 20_memory.md R44. -/
def Obligations.OnlyTheListedStateIsWritten : Prop :=
  ∀ (i : Instr) (s t : State), exec i s = .next t → ChangesOnly (mayWrite i) s t

/-- For every instruction and state, an address outside the ones the instruction stores to (D for STA, STB, STC, POP; the
zero-page address; the one or three stack bytes from T for the pushes and JSR; none for every other instruction) reads
as before. Plain read-write memory everywhere is the default of the OPEN MEMORY_MAP, log 7.
Basis: derived; 20_memory.md R41, 20_memory.md R50, 20_memory.md R56. -/
def Obligations.MemoryChangesOnlyAtTheStoredAddresses : Prop :=
  ∀ (i : Instr) (s t : State) (a : Addr), exec i s = .next t → a ∉ mayStoreTo i s → t.memRead a = s.memRead a

/-- Changing all four flags before an instruction that is no conditional jump changes nothing of its next state but flags
that the instruction does not write: the carry flag is never an input of an addition or subtraction.
Basis: derived; 10_state.md R21, 41_arith.md R140. -/
def Obligations.FlagsAreReadOnlyByConditionalJumps : Prop :=
  ∀ (i : Instr) (s t : State) (f : Flags), isConditionalJump i = false → exec i s = .next t →
    ∃ u, exec i (s.setFlags f) = .next u ∧ ChangesOnly ([.G, .E, .carry, .Z].filter (· ∉ mayWrite i)) t u

/-- For every instruction outside the jumps, JSR, RET, RST and the undefined bytes, P afterwards is P0 plus the length of
its encoding, modulo 2^24 (HTL too, rule R312). The wrap is the spec's decision D6 (log 12).
Basis: derived; 10_state.md R16, 10_state.md R17, 44_stack_flags_system.md R312. -/
def Obligations.InstructionsInSequenceMoveToTheNext : Prop :=
  ∀ (i : Instr) (s t : State), leavesSequence i = false → exec i s = .next t → MovesOn (encode i).length s t

/-- For every STACK_BASE and T the stack byte that T selects is at (STACK_BASE + T) mod 2^24, and different positions
select different addresses. The place is the spec's decision D14; STACK_BASE is a constant field of State (log 3), so
this holds for every value of it.
Basis: derived; 20_memory.md R44, 92_eei_decisions.md D14. -/
def Obligations.StackBytesLieFromTheBaseUpward : Prop :=
  ∀ (s : State) (t u : StackPos), (s.stackAddr t).toNat = (s.stackBase.toNat + t.toNat) % 2 ^ 24 ∧
    (s.stackAddr t = s.stackAddr u → t = u)

/-- Bit 0 of F is Greater, bit 1 Equal, bit 2 Carry, bit 3 Zero; bits 4 to 7 read as 0 (the spec's decision D24, log 18).
Basis: derived; 10_state.md R18, 10_state.md R19. -/
def Obligations.FlagByteHasTheSourcesLayout : Prop :=
  ∀ (f : Flags) (k : Nat), f.toByte.getLsbD k =
    if k = 0 then f.G else if k = 1 then f.E else if k = 2 then f.C else if k = 3 then f.Z else false

/-- For every first byte below $E1 and whatever operand bytes: the decoded instruction has the cycle count 7 on $CB (JSR)
and $CC (RET), 4 on $D0, $D1, $D2, $D7, $D8 (PUSHS, PUSHD, PUSHP, POPS, POPD), and its length in bytes otherwise.
Informative: no step reads it (D28, log 9).
Basis: derived; 70_reset_and_hazards.md R358. -/
def Obligations.CycleCountsFollowTheTable : Prop :=
  ∀ (b0 b1 b2 b3 : Byte) (i : Instr) (rest : List Byte), b0.toNat < 0xE1 → decode [b0, b1, b2, b3] = .ok (i, rest) →
    cycleCount i = some (if b0 = 0xCB#8 ∨ b0 = 0xCC#8 then 7
      else if b0 = 0xD0#8 ∨ b0 = 0xD1#8 ∨ b0 = 0xD2#8 ∨ b0 = 0xD7#8 ∨ b0 = 0xD8#8 then 4
      else 4 - rest.length)

/-- NOP ($00) answers a next state from every state: P is (P0 + 1) mod 2^24 and no other register, flag or byte of memory
changes. The wrap of P is the spec's decision D6 (log 12).
Basis: derived; R100. -/
def Obligations.NopOnlyMovesOn : Prop :=
  Form .nop [0x00#8] fun s t => MovesOn 1 s t ∧ ChangesOnly [.P] s t

/-- From every state LDA ($01), LDB ($03), LDC ($05) answer a next state with the register holding the byte at the address
in S, and LDA a8 ($02), LDB a8 ($04), LDC a8 ($06) the byte at address a8 (0 to 255); F.Z = 1 exactly when that byte
is 0, P moved on by 1 or 2; S and all else as before. Plain memory everywhere is the default of the OPEN MEMORY_MAP
(D23, log 7); the place of the zero page is the spec's decision D3 (log 14).
Basis: derived; R102, R104, R106, 20_memory.md R41, R103, R105, R107, 20_memory.md R43. -/
def Obligations.LoadsTakeTheByteAndItsZero : Prop :=
  LoadForm .lda [0x01#8] State.A .A (fun s => s.S) ∧
    LoadForm .ldb [0x03#8] State.B .B (fun s => s.S) ∧
    LoadForm .ldc [0x05#8] State.C .C (fun s => s.S) ∧
    (∀ b1 : Byte, LoadForm (.ldaA8 b1) [0x02#8, b1] State.A .A (fun _ => BitVec.ofNat 24 b1.toNat)) ∧
    (∀ b1 : Byte, LoadForm (.ldbA8 b1) [0x04#8, b1] State.B .B (fun _ => BitVec.ofNat 24 b1.toNat)) ∧
    (∀ b1 : Byte, LoadForm (.ldcA8 b1) [0x06#8, b1] State.C .C (fun _ => BitVec.ofNat 24 b1.toNat))

/-- From every state the nine forms of SETA, SETB, SETC answer a next state with the register holding the operand byte or
the other register's value, and SETS i24 ($10), SETD i24 ($13) one with S or D holding b1*65536 + b2*256 + b3; P has
moved on by the form's length; no flag (not even F.Z for 0), no other register and no byte of memory changes. The byte
order of the 24-bit operand is the spec's decision D2 (log 14), the wrap of P its decision D6 (log 12).
Basis: derived; R109, R110, R111, R112, R113, R114, R115, R116, R117, R118, R121. -/
def Obligations.SetsOfWholeRegisters : Prop :=
  (∀ b1, SetForm (.setaI8 b1) [0x07#8, b1] State.A .A (fun _ => b1.toNat)) ∧
    SetForm .setaB [0x08#8] State.A .A (fun s => s.B.toNat) ∧
    SetForm .setaC [0x09#8] State.A .A (fun s => s.C.toNat) ∧
    (∀ b1, SetForm (.setbI8 b1) [0x0A#8, b1] State.B .B (fun _ => b1.toNat)) ∧
    SetForm .setbA [0x0B#8] State.B .B (fun s => s.A.toNat) ∧
    SetForm .setbC [0x0C#8] State.B .B (fun s => s.C.toNat) ∧
    (∀ b1, SetForm (.setcI8 b1) [0x0D#8, b1] State.C .C (fun _ => b1.toNat)) ∧
    SetForm .setcA [0x0E#8] State.C .C (fun s => s.A.toNat) ∧
    SetForm .setcB [0x0F#8] State.C .C (fun s => s.B.toNat) ∧
    (∀ b1 b2 b3, SetForm (.setsI24 (b1 ++ b2 ++ b3)) [0x10#8, b1, b2, b3] State.S .S (fun _ => num24 b1 b2 b3)) ∧
    (∀ b1 b2 b3, SetForm (.setdI24 (b1 ++ b2 ++ b3)) [0x13#8, b1, b2, b3] State.D .D (fun _ => num24 b1 b2 b3))

/-- From every state SETS i16 ($11), SETS i8 ($12), SETD i16 ($14), SETD i8 ($15) answer a next state with the register
equal to the number of the operand bytes (upper bits 0 whatever it held), P moved on by 3 or 2; nothing else changes.
Zero extension is the spec's decision D7 (log 15).
Basis: derived; R119, R120, R122, R123, 30_encoding.md R73. -/
def Obligations.NarrowSetsClearTheUpperBits : Prop :=
  (∀ b1 b2, SetForm (.setsI16 (b1 ++ b2)) [0x11#8, b1, b2] State.S .S (fun _ => num16 b1 b2)) ∧
    (∀ b1, SetForm (.setsI8 b1) [0x12#8, b1] State.S .S (fun _ => b1.toNat)) ∧
    (∀ b1 b2, SetForm (.setdI16 (b1 ++ b2)) [0x14#8, b1, b2] State.D .D (fun _ => num16 b1 b2)) ∧
    (∀ b1, SetForm (.setdI8 b1) [0x15#8, b1] State.D .D (fun _ => b1.toNat))

/-- From every state STA ($16), STB ($18), STC ($1A) answer a next state in which the byte at the address in D reads as
the register, STA a8 ($17), STB a8 ($19), STC a8 ($1B) one in which the byte at address a8 (0 to 255) does; every
other byte of memory reads as before, P has moved on by 1 or 2, and D, the register, the flags and all else are as
before. Plain memory everywhere is the default of the OPEN MEMORY_MAP (log 7); the place of the zero page is the
spec's decision D3 (log 14).
Basis: derived; R125, R127, R129, 20_memory.md R41, R126, R128, R130, 20_memory.md R43. -/
def Obligations.StoresWriteOneByteAndNoFlag : Prop :=
  StoreForm .sta [0x16#8] State.A State.destAddr ∧
    StoreForm .stb [0x18#8] State.B State.destAddr ∧
    StoreForm .stc [0x1A#8] State.C State.destAddr ∧
    (∀ s : State, s.destAddr = s.D) ∧
    (∀ b1 : Byte, StoreForm (.staA8 b1) [0x17#8, b1] State.A (fun _ => zeroPageAddr b1)) ∧
    (∀ b1 : Byte, StoreForm (.stbA8 b1) [0x19#8, b1] State.B (fun _ => zeroPageAddr b1)) ∧
    (∀ b1 : Byte, StoreForm (.stcA8 b1) [0x1B#8, b1] State.C (fun _ => zeroPageAddr b1)) ∧
    ∀ b1 : Byte, (zeroPageAddr b1).toNat = b1.toNat

/-- From every state INCx answers a next state with the register one greater modulo 2^8 (A, B, C) or 2^24 (S, D), F.C = 1
exactly when it held its maximum, P moved on by 1; F.Z, F.G, F.E and all else as before, even when the result is 0.
(Below the top of memory: where P wraps is another statement, InstructionsInSequenceMoveToTheNext.)
Basis: stated; R141. -/
def Obligations.IncrementsWrapToZeroWithCarry : Prop :=
  IncForm .inca [0x1C#8] State.A .A ∧
    IncForm .incb [0x1D#8] State.B .B ∧
    IncForm .incc [0x1E#8] State.C .C ∧
    IncForm .incs [0x1F#8] State.S .S ∧
    IncForm .incd [0x20#8] State.D .D

/-- From every state DECx answers a next state with the register one less modulo 2^8 or 2^24, F.C = 1 exactly when it held
0, F.Z = 1 exactly when it held 1, P moved on by 1; all else as before. That decrementing 0 clears Z is the spec's
reading (91_not_in_source.md N12, log 17).
Basis: derived; R147, R148, R149, R150, R151, R152. -/
def Obligations.DecrementsWrapToMaximumWithCarry : Prop :=
  DecForm .deca [0x21#8] State.A .A ∧
    DecForm .decb [0x22#8] State.B .B ∧
    DecForm .decc [0x23#8] State.C .C ∧
    DecForm .decs [0x24#8] State.S .S ∧
    DecForm .decd [0x25#8] State.D .D

/-- From every state the nine forms of ADDA, ADDB, ADDC answer a next state with the register equal to the true sum modulo
256 and F.C = 1 exactly when the true sum exceeds 255, P moved on by the form's length; F.Z, F.G, F.E, the other
operand and all else as before; the old carry is not added. The wrap is the spec's decision D8 (log 15).
Basis: derived; R154, R155, R156, R157, R158, R159, R160, R161, R162, R140. -/
def Obligations.ByteAdditionsWrapWithCarry : Prop :=
  (∀ b1, AddForm (.addaI8 b1) [0x26#8, b1] State.A .A (fun _ => b1.toNat)) ∧
    AddForm .addaB [0x27#8] State.A .A (fun s => s.B.toNat) ∧
    AddForm .addaC [0x28#8] State.A .A (fun s => s.C.toNat) ∧
    (∀ b1, AddForm (.addbI8 b1) [0x29#8, b1] State.B .B (fun _ => b1.toNat)) ∧
    AddForm .addbA [0x2A#8] State.B .B (fun s => s.A.toNat) ∧
    AddForm .addbC [0x2B#8] State.B .B (fun s => s.C.toNat) ∧
    (∀ b1, AddForm (.addcI8 b1) [0x2C#8, b1] State.C .C (fun _ => b1.toNat)) ∧
    AddForm .addcA [0x2D#8] State.C .C (fun s => s.A.toNat) ∧
    AddForm .addcB [0x2E#8] State.C .C (fun s => s.B.toNat)

/-- From every state the six forms of ADDS, ADDD (i16, i8, register A) answer a next state with the register equal to the
true sum modulo 2^24 and F.C = 1 exactly when the true sum exceeds 16777215, P moved on by the form's length; F.Z and
all else as before. Zero extension and wrap are the spec's decisions D7 and D8 (log 15).
Basis: derived; R163, R164, R165, R166, R167, R168, R140. -/
def Obligations.AddressAdditionsWrapWithCarry : Prop :=
  (∀ b1 b2, AddForm (.addsI16 (b1 ++ b2)) [0x2F#8, b1, b2] State.S .S (fun _ => num16 b1 b2)) ∧
    (∀ b1, AddForm (.addsI8 b1) [0x30#8, b1] State.S .S (fun _ => b1.toNat)) ∧
    AddForm .addsA [0x31#8] State.S .S (fun s => s.A.toNat) ∧
    (∀ b1 b2, AddForm (.adddI16 (b1 ++ b2)) [0x32#8, b1, b2] State.D .D (fun _ => num16 b1 b2)) ∧
    (∀ b1, AddForm (.adddI8 b1) [0x33#8, b1] State.D .D (fun _ => b1.toNat)) ∧
    AddForm .adddA [0x34#8] State.D .D (fun s => s.A.toNat)

/-- From every state the nine forms of SUBA, SUBB, SUBC answer a next state with the register equal to the difference
modulo 256, F.C = 1 exactly when the operand is greater, F.Z = 1 exactly when they are equal, P moved on by the form's
length; all else as before. The wrap is the spec's decision D8 (log 15).
Basis: derived; R170, R171, R172, R173, R174, R175, R176, R177, R178, R140. -/
def Obligations.ByteSubtractionsBorrow : Prop :=
  (∀ b1, SubForm (.subaI8 b1) [0x35#8, b1] State.A .A (fun _ => b1.toNat)) ∧
    SubForm .subaB [0x36#8] State.A .A (fun s => s.B.toNat) ∧
    SubForm .subaC [0x37#8] State.A .A (fun s => s.C.toNat) ∧
    (∀ b1, SubForm (.subbI8 b1) [0x38#8, b1] State.B .B (fun _ => b1.toNat)) ∧
    SubForm .subbA [0x39#8] State.B .B (fun s => s.A.toNat) ∧
    SubForm .subbC [0x3A#8] State.B .B (fun s => s.C.toNat) ∧
    (∀ b1, SubForm (.subcI8 b1) [0x3B#8, b1] State.C .C (fun _ => b1.toNat)) ∧
    SubForm .subcA [0x3C#8] State.C .C (fun s => s.A.toNat) ∧
    SubForm .subcB [0x3D#8] State.C .C (fun s => s.B.toNat)

/-- From every state the six forms of SUBS, SUBD (i16, i8, register A) answer a next state with the register equal to the
difference modulo 2^24, F.C = 1 exactly when the operand is greater, F.Z = 1 exactly when they are equal, P moved on
by the form's length; all else as before. Zero extension and wrap are the spec's decisions D7 and D8 (log 15).
Basis: derived; R179, R180, R181, R182, R183, R184, R140. -/
def Obligations.AddressSubtractionsBorrow : Prop :=
  (∀ b1 b2, SubForm (.subsI16 (b1 ++ b2)) [0x3E#8, b1, b2] State.S .S (fun _ => num16 b1 b2)) ∧
    (∀ b1, SubForm (.subsI8 b1) [0x3F#8, b1] State.S .S (fun _ => b1.toNat)) ∧
    SubForm .subsA [0x40#8] State.S .S (fun s => s.A.toNat) ∧
    (∀ b1 b2, SubForm (.subdI16 (b1 ++ b2)) [0x41#8, b1, b2] State.D .D (fun _ => num16 b1 b2)) ∧
    (∀ b1, SubForm (.subdI8 b1) [0x42#8, b1] State.D .D (fun _ => b1.toNat)) ∧
    SubForm .subdA [0x43#8] State.D .D (fun s => s.A.toNat)

/-- For every bit number 0 to 7 and every state TSTx (one byte, base + ib) answers a next state with F.Z = 1 exactly when
bit ib of the register is 0, P moved on by 1; the register and all else as before. The order of ib in the opcode range
is the spec's decision D12 (log 16).
Basis: derived; R191, R192, R193, R190, R77. -/
def Obligations.BitTestsComplementTheBitIntoZero : Prop :=
  ∀ k : Nat, k ≤ 7 →
    TestForm (.tsta k) [BitVec.ofNat 8 (0x44 + k)] State.A k ∧
    TestForm (.tstb k) [BitVec.ofNat 8 (0x4C + k)] State.B k ∧
    TestForm (.tstc k) [BitVec.ofNat 8 (0x54 + k)] State.C k

/-- From every state the nine forms of ANDx answer a next state in which each bit of the register is the AND of the two
operand bits, F.Z = 1 exactly when the result is 0, P moved on by the form's length; F.C, F.G, F.E, the other operand
and all else as before. (Below the top of memory: where P wraps is another statement,
InstructionsInSequenceMoveToTheNext.)
Basis: stated; R194. -/
def Obligations.ConjunctionsWriteZero : Prop :=
  (∀ b1, LogicForm (.andaI8 b1) [0x5C#8, b1] State.A .A (fun _ => b1) Bool.and) ∧
    LogicForm .andaB [0x5D#8] State.A .A (fun s => s.B) Bool.and ∧
    LogicForm .andaC [0x5E#8] State.A .A (fun s => s.C) Bool.and ∧
    (∀ b1, LogicForm (.andbI8 b1) [0x5F#8, b1] State.B .B (fun _ => b1) Bool.and) ∧
    LogicForm .andbA [0x60#8] State.B .B (fun s => s.A) Bool.and ∧
    LogicForm .andbC [0x61#8] State.B .B (fun s => s.C) Bool.and ∧
    (∀ b1, LogicForm (.andcI8 b1) [0x62#8, b1] State.C .C (fun _ => b1) Bool.and) ∧
    LogicForm .andcA [0x63#8] State.C .C (fun s => s.A) Bool.and ∧
    LogicForm .andcB [0x64#8] State.C .C (fun s => s.B) Bool.and

/-- From every state the nine forms of ORx answer a next state in which each bit of the register is the inclusive OR of
the two operand bits, F.Z = 1 exactly when the result is 0, P moved on by the form's length; F.C, F.G, F.E, the other
operand and all else as before. (Below the top of memory: where P wraps is another statement,
InstructionsInSequenceMoveToTheNext.)
Basis: stated; R204. -/
def Obligations.DisjunctionsWriteZero : Prop :=
  (∀ b1, LogicForm (.oraI8 b1) [0x65#8, b1] State.A .A (fun _ => b1) Bool.or) ∧
    LogicForm .oraB [0x66#8] State.A .A (fun s => s.B) Bool.or ∧
    LogicForm .oraC [0x67#8] State.A .A (fun s => s.C) Bool.or ∧
    (∀ b1, LogicForm (.orbI8 b1) [0x68#8, b1] State.B .B (fun _ => b1) Bool.or) ∧
    LogicForm .orbA [0x69#8] State.B .B (fun s => s.A) Bool.or ∧
    LogicForm .orbC [0x6A#8] State.B .B (fun s => s.C) Bool.or ∧
    (∀ b1, LogicForm (.orcI8 b1) [0x6B#8, b1] State.C .C (fun _ => b1) Bool.or) ∧
    LogicForm .orcA [0x6C#8] State.C .C (fun s => s.A) Bool.or ∧
    LogicForm .orcB [0x6D#8] State.C .C (fun s => s.B) Bool.or

/-- From every state the nine forms of XORx answer a next state in which each bit of the register is the exclusive OR of
the two operand bits, F.Z = 1 exactly when the result is 0, P moved on by the form's length; F.C, F.G, F.E, the other
operand and all else as before. (Below the top of memory: where P wraps is another statement,
InstructionsInSequenceMoveToTheNext.)
Basis: stated; R214. -/
def Obligations.ExclusiveDisjunctionsWriteZero : Prop :=
  (∀ b1, LogicForm (.xoraI8 b1) [0x6E#8, b1] State.A .A (fun _ => b1) Bool.xor) ∧
    LogicForm .xoraB [0x6F#8] State.A .A (fun s => s.B) Bool.xor ∧
    LogicForm .xoraC [0x70#8] State.A .A (fun s => s.C) Bool.xor ∧
    (∀ b1, LogicForm (.xorbI8 b1) [0x71#8, b1] State.B .B (fun _ => b1) Bool.xor) ∧
    LogicForm .xorbA [0x72#8] State.B .B (fun s => s.A) Bool.xor ∧
    LogicForm .xorbC [0x73#8] State.B .B (fun s => s.C) Bool.xor ∧
    (∀ b1, LogicForm (.xorcI8 b1) [0x74#8, b1] State.C .C (fun _ => b1) Bool.xor) ∧
    LogicForm .xorcA [0x75#8] State.C .C (fun s => s.A) Bool.xor ∧
    LogicForm .xorcB [0x76#8] State.C .C (fun s => s.B) Bool.xor

/-- From every state NOTA ($77), NOTB ($78), NOTC ($79) answer a next state with the register equal to 255 minus its old
value, F.Z = 1 exactly when it held 255, P moved on by 1; all else as before. (Below the top of memory: where P wraps
is another statement, InstructionsInSequenceMoveToTheNext.)
Basis: stated; R224. -/
def Obligations.InversionsWriteZero : Prop :=
  Form .nota [0x77#8] (fun s t => t.A.toNat = 255 - s.A.toNat ∧ (t.F.Z = true ↔ s.A.toNat = 255) ∧ Advances 1 s t ∧
      ChangesOnly [.A, .Z, .P] s t) ∧
    Form .notb [0x78#8] (fun s t => t.B.toNat = 255 - s.B.toNat ∧ (t.F.Z = true ↔ s.B.toNat = 255) ∧ Advances 1 s t ∧
      ChangesOnly [.B, .Z, .P] s t) ∧
    Form .notc [0x79#8] (fun s t => t.C.toNat = 255 - s.C.toNat ∧ (t.F.Z = true ↔ s.C.toNat = 255) ∧ Advances 1 s t ∧
      ChangesOnly [.C, .Z, .P] s t)

/-- For every count 1 to 8 and every state SHLx (one byte, base + is - 1) answers a next state with the register equal to
(x * 2^is) mod 256, no flag written (not even F.Z on 0), P moved on by 1; F.C and all else as before. Logical shift,
the Z condition of SHRx and the order of is are the spec's decisions D10, D11, D12 (log 16).
Basis: derived; R229, R230, R231, R228, R78. -/
def Obligations.LeftShiftsWriteNoFlag : Prop :=
  ∀ n : Nat, 1 ≤ n → n ≤ 8 →
    ShiftLeftForm (.shla n) [BitVec.ofNat 8 (0x7A + (n - 1))] State.A .A n ∧
    ShiftLeftForm (.shlb n) [BitVec.ofNat 8 (0x82 + (n - 1))] State.B .B n ∧
    ShiftLeftForm (.shlc n) [BitVec.ofNat 8 (0x8A + (n - 1))] State.C .C n

/-- For every count 1 to 8 and every state SHRx (one byte, base + is - 1) answers a next state with the register equal to
floor(x / 2^is) and F.Z = 1 exactly when x < 2^is, P moved on by 1; F.C and all else as before. Logical shift, the Z
condition of SHRx and the order of is are the spec's decisions D10, D11, D12 (log 16).
Basis: derived; R233, R234, R235, R232, R78. -/
def Obligations.RightShiftsWriteZero : Prop :=
  ∀ n : Nat, 1 ≤ n → n ≤ 8 →
    ShiftRightForm (.shra n) [BitVec.ofNat 8 (0x92 + (n - 1))] State.A .A n ∧
    ShiftRightForm (.shrb n) [BitVec.ofNat 8 (0x9A + (n - 1))] State.B .B n ∧
    ShiftRightForm (.shrc n) [BitVec.ofNat 8 (0xA2 + (n - 1))] State.C .C n

/-- From every state the six compare forms answer a next state with F.G = 1 exactly when the register named in the
mnemonic is greater than the other value, F.E = 1 exactly when they are equal, P moved on by the form's length; F.C,
F.Z, the registers and all else as before. Unsigned comparison is the spec's decision D9 (log 15).
Basis: derived; R240, R241, R242, R243, R244, R245, R246. -/
def Obligations.ComparesWriteGreaterAndEqual : Prop :=
  (∀ b1, CompareForm (.cmpaI8 b1) [0xAA#8, b1] State.A (fun _ => b1.toNat)) ∧
    CompareForm .cmpaB [0xAB#8] State.A (fun s => s.B.toNat) ∧
    CompareForm .cmpaC [0xAC#8] State.A (fun s => s.C.toNat) ∧
    (∀ b1, CompareForm (.cmpbI8 b1) [0xAD#8, b1] State.B (fun _ => b1.toNat)) ∧
    CompareForm .cmpbC [0xAE#8] State.B (fun s => s.C.toNat) ∧
    (∀ b1, CompareForm (.cmpcI8 b1) [0xAF#8, b1] State.C (fun _ => b1.toNat))

/-- From every state JMP ($B0) and, when the condition on the flags holds, JZ, JNZ, JC, JNC, JE, JNE, JG, JL (JL: G and E
both unset) answer a next state with P = (P0 + 2 + offset) mod 2^24, the offset -128 to 127 in two's complement; when
it does not hold P is P0 + 2; nothing else changes. Base and offset encoding are the spec's decisions D4 and D5 (logs
12, 14).
Basis: derived; R247, R248, R249, R252, R255, R258, R261, R264, R267, R270, R273. -/
def Obligations.NearJumps : Prop :=
  NearJump .jmp 0xB0#8 (fun _ => True) ∧
    NearJump .jz 0xB3#8 (fun f => f.Z = true) ∧
    NearJump .jnz 0xB6#8 (fun f => f.Z = false) ∧
    NearJump .jc 0xB9#8 (fun f => f.C = true) ∧
    NearJump .jnc 0xBC#8 (fun f => f.C = false) ∧
    NearJump .je 0xBF#8 (fun f => f.E = true) ∧
    NearJump .jne 0xC2#8 (fun f => f.E = false) ∧
    NearJump .jg 0xC5#8 (fun f => f.G = true) ∧
    NearJump .jl 0xC8#8 (fun f => f.G = false ∧ f.E = false)

/-- From every state JMPF ($B1) and, when the condition on the flags holds, JZF, JNZF, JCF, JNCF, JEF, JNEF, JGF, JLF
answer a next state with P = (P0 + 3 + offset) mod 2^24, the offset -32768 to 32767 in two's complement, most
significant byte first; when it does not hold P is P0 + 3; nothing else changes. Base and offset encoding are the
spec's decisions D4 and D5 (logs 12, 14).
Basis: derived; R247, R248, R250, R253, R256, R259, R262, R265, R268, R271, R274. -/
def Obligations.FarJumps : Prop :=
  FarJump .jmpf 0xB1#8 (fun _ => True) ∧
    FarJump .jzf 0xB4#8 (fun f => f.Z = true) ∧
    FarJump .jnzf 0xB7#8 (fun f => f.Z = false) ∧
    FarJump .jcf 0xBA#8 (fun f => f.C = true) ∧
    FarJump .jncf 0xBD#8 (fun f => f.C = false) ∧
    FarJump .jef 0xC0#8 (fun f => f.E = true) ∧
    FarJump .jnef 0xC3#8 (fun f => f.E = false) ∧
    FarJump .jgf 0xC6#8 (fun f => f.G = true) ∧
    FarJump .jlf 0xC9#8 (fun f => f.G = false ∧ f.E = false)

/-- From every state JMPA, JZA, JNZA, JCA, JNCA, JEA, JNEA, JGA, JLA answer a next state with P = b1*65536 + b2*256 + b3
when the condition on the flags holds (JMPA: always) and P0 + 4 otherwise; nothing else changes. The byte order of the
operand is the spec's decision D2 (log 14), the wrap of P its decision D6 (log 12).
Basis: derived; R251, R254, R257, R260, R263, R266, R269, R272, R275. -/
def Obligations.AbsoluteJumps : Prop :=
  AbsJump .jmpa 0xB2#8 (fun _ => True) ∧
    AbsJump .jza 0xB5#8 (fun f => f.Z = true) ∧
    AbsJump .jnza 0xB8#8 (fun f => f.Z = false) ∧
    AbsJump .jca 0xBB#8 (fun f => f.C = true) ∧
    AbsJump .jnca 0xBE#8 (fun f => f.C = false) ∧
    AbsJump .jea 0xC1#8 (fun f => f.E = true) ∧
    AbsJump .jnea 0xC4#8 (fun f => f.E = false) ∧
    AbsJump .jga 0xC7#8 (fun f => f.G = true) ∧
    AbsJump .jla 0xCA#8 (fun f => f.G = false ∧ f.E = false)

/-- From every state JSR ($CB) answers a next state in which the three stack bytes from T hold (P0 + 4) mod 2^24 with the
most significant byte first, T has grown by 3 modulo 4096, P is the 24-bit operand, and every other byte of memory,
register and flag is as before. Saved P, stack order and wrap are the spec's decisions D4, D13, D15, D16 (logs 12,
13).
Basis: derived; R276, 20_memory.md R47. -/
def Obligations.CallPushesTheReturnAddress : Prop :=
  ∀ b1 b2 b3 : Byte, Form (.jsr (b1 ++ b2 ++ b3)) [0xCB#8, b1, b2, b3] fun s t =>
    Pushed24 ((s.P.toNat + 4) % 2 ^ 24) s t ∧ t.P.toNat = num24 b1 b2 b3 ∧ ChangesOnly [.mem, .T, .P] s t

/-- From every state RET ($CC) answers a next state with P equal to the 24-bit number in the three stack bytes below T
(most significant lowest), T smaller by 3 modulo 4096; memory, registers and flags as before. Stack order and wrap are
the spec's decisions D13, D15, D16 (log 13).
Basis: derived; R277, 20_memory.md R47, 20_memory.md R48. -/
def Obligations.ReturnPopsTheProgramPointer : Prop :=
  Form .ret [0xCC#8] fun s t =>
    t.P.toNat = top24 s ∧ t.T.toNat = (s.T.toNat + 4093) % 4096 ∧ ChangesOnly [.T, .P] s t

/-- From every state PUSHA, PUSHB, PUSHC and PUSH i8 answer a next state in which the byte at StackAddr(T) reads as the
register or immediate, T has grown by 1; PUSHS, PUSHD, PUSHP one in which the three stack bytes from T hold S, D or
(P0 + 1) mod 2^24, most significant byte first, T has grown by 3 (modulo 4096); every other byte reads as before, P
has moved on by the form's length, no flag and no other register changes. Spec decisions D4, D13, D15, D16 (logs 12,
13).
Basis: derived; R290, R291, R292, R293, R294, R295, R296, R297, 20_memory.md R45, 20_memory.md R47, 20_memory.md R48. -/
def Obligations.PushesStoreThenIncrement : Prop :=
  PushForm .pusha [0xCD#8] State.A ∧
    PushForm .pushb [0xCE#8] State.B ∧
    PushForm .pushc [0xCF#8] State.C ∧
    (∀ b1 : Byte, PushForm (.push b1) [0xD3#8, b1] (fun _ => b1)) ∧
    PushWideForm .pushs [0xD0#8] (fun s => s.S.toNat) ∧
    PushWideForm .pushd [0xD1#8] (fun s => s.D.toNat) ∧
    PushWideForm .pushp [0xD2#8] (fun s => (s.P.toNat + 1) % 2 ^ 24)

/-- From every state POPA ($D4), POPB ($D5), POPC ($D6) answer a next state with T smaller by 1 modulo 4096 and the
register holding the byte at StackAddr of the new T; POPS ($D7), POPD ($D8) one with T smaller by 3 and S or D equal
to the 24-bit number in the three stack bytes below the old T, the byte pushed last least significant; P has moved on
by 1; no flag (not even F.Z), no byte of memory and no other register changes. Spec decisions D13, D15, D16 (log 13).
Basis: derived; R298, R299, R300, R301, R302, R303, 20_memory.md R46, 20_memory.md R47, 20_memory.md R48. -/
def Obligations.PopsDecrementThenRead : Prop :=
  PopForm .popa [0xD4#8] State.A .A ∧
    PopForm .popb [0xD5#8] State.B .B ∧
    PopForm .popc [0xD6#8] State.C .C ∧
    PopWideForm .pops [0xD7#8] State.S .S ∧
    PopWideForm .popd [0xD8#8] State.D .D

/-- From every state POP ($D9) answers a next state with T smaller by 1 modulo 4096, the byte at D reading as the byte
that stood at StackAddr of the new T (also where that is D itself), every other byte of memory as before, P moved on
by 1; D, A, B, C and the flags unchanged. Spec decisions D13, D15 (log 13); MEMORY_MAP default, log 7.
Basis: derived; R304, 20_memory.md R46. -/
def Obligations.PopToMemoryStoresAtDestination : Prop :=
  Form .pop [0xD9#8] fun s t =>
    t.memRead s.destAddr = s.memRead (s.stackAddr t.T) ∧ s.destAddr = s.D ∧
      (∀ a, a ≠ s.destAddr → t.memRead a = s.memRead a) ∧
      t.T.toNat = (s.T.toNat + 4095) % 4096 ∧ MovesOn 1 s t ∧ ChangesOnly [.mem, .T, .P] s t

/-- From every state CLG ($DA), CLE ($DB), CLC ($DC), CLZ ($DD) answer a next state with the named flag 0 and the other
three as before, CLF ($DE) one with G, E, C and Z all 0; P has moved on by 1, registers and memory are as before. The
wrap of P is the spec's decision D6 (log 12).
Basis: derived; R306, R307, R308, R309, R310. -/
def Obligations.FlagClears : Prop :=
  ClearForm .clg [0xDA#8] Flags.G .G ∧
    ClearForm .cle [0xDB#8] Flags.E .E ∧
    ClearForm .clc [0xDC#8] Flags.C .carry ∧
    ClearForm .clz [0xDD#8] Flags.Z .Z ∧
    Form .clf [0xDE#8] fun s t =>
    t.F.G = false ∧ t.F.E = false ∧ t.F.C = false ∧ t.F.Z = false ∧ MovesOn 1 s t ∧
      ChangesOnly [.G, .E, .carry, .Z, .P] s t

/-- From every state RST ($DF) answers a next state with P = $040000; A, B, C, S, D, T, the flags, memory and the run
state as before. That nothing else changes is the spec's decision D18 (log 11).
Basis: derived; R311, R354. -/
def Obligations.SoftResetOnlySetsTheProgramPointer : Prop :=
  Form .rst [0xDF#8] fun s t => t.P.toNat = 0x040000 ∧ ChangesOnly [.P] s t

/-- From every state HTL ($E0) answers a next state whose run state is halted and whose P is (P0 + 1) mod 2^24; registers,
flags and memory as before. Where P stands and that nothing ends a halt are the spec's decision D19 (log 4).
Basis: derived; R312, R325. -/
def Obligations.HaltMovesOnAndHalts : Prop :=
  Form .htl [0xE0#8] fun s t => t.run = .halted ∧ MovesOn 1 s t ∧ ChangesOnly [.run, .P] s t

/-- For every byte $E1 to $FF and every state the undefined instruction answers a next state whose run state is
faulted(byte, P0), with P, registers, flags and memory as before. The fault itself is the spec's decision D20; that it
is shown as a next state is DESIGN CHOICE, log 5.
Basis: derived; R81, R321. -/
def Obligations.UndefinedBytesFaultTheMachine : Prop :=
  ∀ op : Byte, 0xE1 ≤ op.toNat →
    Form (.undefined op) [op] fun s t => t.run = .faulted op s.P ∧ ChangesOnly [.run] s t

/-- PUSHA;POPA, PUSHB;POPB, PUSHC;POPC, PUSHS;POPS, PUSHD;POPD from every state (every T, every STACK_BASE) answer a next
state that differs from the first only in P and in the stack bytes written; a byte outside the three positions from T
reads as before. Spec decisions D13, D15, D16 (log 13).
Basis: derived; 20_memory.md R45, 20_memory.md R46, 20_memory.md R47, 95_test_vectors.md section 5. -/
def Obligations.PushThenPopRestoresTheRegister : Prop :=
  ∀ s : State, ∀ p ∈ [(Instr.pusha, Instr.popa), (.pushb, .popb), (.pushc, .popc), (.pushs, .pops), (.pushd, .popd)],
    ∃ t, execs [p.1, p.2] s = .next t ∧ ChangesOnly [.mem, .P] s t ∧
      ∀ a, a ≠ s.stackAddr s.T → a ≠ s.stackAddr (s.T + 1#12) → a ≠ s.stackAddr (s.T + 2#12) →
        t.memRead a = s.memRead a

/-- PUSHS;POPA;POPB;POPC gives A = S[7:0], B = S[15:8], C = S[23:16]; PUSHC;PUSHB;PUSHA;POPS gives S = C:B:A; PUSHS;POPD
gives D = S and PUSHD;POPS gives S = D; in each case T is back where it was. From every state; spec decisions D13,
D15, D16 (log 13).
Basis: derived; 20_memory.md R47, 30_encoding.md R84. -/
def Obligations.WideValuesPassThroughTheStackBigEndian : Prop :=
  ∀ s : State,
    (∃ t, execs [.pushs, .popa, .popb, .popc] s = .next t ∧ num24 t.C t.B t.A = s.S.toNat ∧ t.T = s.T) ∧
    (∃ t, execs [.pushc, .pushb, .pusha, .pops] s = .next t ∧ t.S.toNat = num24 s.C s.B s.A ∧ t.T = s.T) ∧
    (∃ t, execs [.pushs, .popd] s = .next t ∧ t.D = s.S ∧ t.S = s.S ∧ t.T = s.T) ∧
    (∃ t, execs [.pushd, .pops] s = .next t ∧ t.S = s.D ∧ t.D = s.D ∧ t.T = s.T)

/-- From every state: JSR then RET leaves P at (P0 + 4) mod 2^24 and T, registers and flags as they were; PUSH b1, PUSH
b2, PUSH b3, RET jumps to b1:b2:b3 with T as it was. Spec decisions D4, D13, D15, D16 (logs 12, 13).
Basis: derived; R276, R277, 20_memory.md R47, 95_test_vectors.md section 5. -/
def Obligations.CallThenReturnComesBack : Prop :=
  ∀ (s : State) (a24 : Addr) (b1 b2 b3 : Byte),
    (∃ t, execs [.jsr a24, .ret] s = .next t ∧ MovesOn 4 s t ∧ ChangesOnly [.mem, .P] s t) ∧
    (∃ t, execs [.push b1, .push b2, .push b3, .ret] s = .next t ∧ t.P.toNat = num24 b1 b2 b3 ∧
      ChangesOnly [.mem, .P] s t)

/-- From every state, for each of A, B, C, S, D: INCx then DECx answers a next state with the register as at the start,
F.Z = 1 exactly when it was 0, F.C = 1 exactly when it was the maximum; T, F.G, F.E, memory and the other registers as
before. (Z after the wrap: spec reading N12, log 17.)
Basis: derived; R141, R147, 95_test_vectors.md section 5. -/
def Obligations.IncrementThenDecrementRestores : Prop :=
  ∀ s : State,
    (∃ t, execs [.inca, .deca] s = .next t ∧ (t.F.Z = true ↔ s.A.toNat = 0) ∧ (t.F.C = true ↔ s.A.toNat = 255) ∧
      ChangesOnly [.carry, .Z, .P] s t) ∧
    (∃ t, execs [.incb, .decb] s = .next t ∧ (t.F.Z = true ↔ s.B.toNat = 0) ∧ (t.F.C = true ↔ s.B.toNat = 255) ∧
      ChangesOnly [.carry, .Z, .P] s t) ∧
    (∃ t, execs [.incc, .decc] s = .next t ∧ (t.F.Z = true ↔ s.C.toNat = 0) ∧ (t.F.C = true ↔ s.C.toNat = 255) ∧
      ChangesOnly [.carry, .Z, .P] s t) ∧
    (∃ t, execs [.incs, .decs] s = .next t ∧ (t.F.Z = true ↔ s.S.toNat = 0) ∧
      (t.F.C = true ↔ s.S.toNat = 16777215) ∧ ChangesOnly [.carry, .Z, .P] s t) ∧
    (∃ t, execs [.incd, .decd] s = .next t ∧ (t.F.Z = true ↔ s.D.toNat = 0) ∧
      (t.F.C = true ↔ s.D.toNat = 16777215) ∧ ChangesOnly [.carry, .Z, .P] s t)

/-- After any of the six compares, from every state: among JG, JE, JL with one offset, among JGF, JEF, JLF with one offset
and among JGA, JEA, JLA with one target, where the target is not the address after the jump, exactly one ends with P
at the target, and the other two end with P at the address after the jump. Spec decisions D4, D5, D9 (logs 12, 14, 15)
and conflict C7.
Basis: derived; R240, R248, 95_test_vectors.md section 5. -/
def Obligations.AfterACompareExactlyOneOfGreaterEqualLessJumps : Prop :=
  ∀ (s t : State) (v : Byte), ∀ i ∈ [Instr.cmpaI8 v, .cmpaB, .cmpaC, .cmpbI8 v, .cmpbC, .cmpcI8 v],
    exec i s = .next t →
    (∀ off : Byte, ExactlyOneJumps [.jg off, .je off, .jl off] (t.relTarget off 2) 2 t) ∧
    (∀ off : Word16, ExactlyOneJumps [.jgf off, .jef off, .jlf off] (t.relTarget off 3) 3 t) ∧
    ∀ a : Addr, ExactlyOneJumps [.jga a, .jea a, .jla a] a 4 t

/-- For each of A, B, C, every count 1 to 8 and every state: SHLx n then SHRx n leaves the register equal to its old value
modulo 2^(8-n), and SHLx 8 or SHRx 8 alone leaves 0. Spec decisions D10, D12 (log 16).
Basis: derived; R228, R232, 95_test_vectors.md section 5. -/
def Obligations.RightShiftAfterLeftShiftClearsTheTopBits : Prop :=
  ∀ (s : State) (n : Nat), 1 ≤ n → n ≤ 8 →
    (∃ t, execs [.shla n, .shra n] s = .next t ∧ t.A.toNat = s.A.toNat % 2 ^ (8 - n)) ∧
    (∃ t, execs [.shlb n, .shrb n] s = .next t ∧ t.B.toNat = s.B.toNat % 2 ^ (8 - n)) ∧
    (∃ t, execs [.shlc n, .shrc n] s = .next t ∧ t.C.toNat = s.C.toNat % 2 ^ (8 - n)) ∧
    (∃ t, exec (.shla 8) s = .next t ∧ t.A.toNat = 0) ∧ (∃ t, exec (.shra 8) s = .next t ∧ t.A.toNat = 0) ∧
    (∃ t, exec (.shlb 8) s = .next t ∧ t.B.toNat = 0) ∧ (∃ t, exec (.shrb 8) s = .next t ∧ t.B.toNat = 0) ∧
    (∃ t, exec (.shlc 8) s = .next t ∧ t.C.toNat = 0) ∧ (∃ t, exec (.shrc 8) s = .next t ∧ t.C.toNat = 0)

/-- From every state: XORA b, XORB a, XORA b answers a next state with A and B exchanged and F.Z = 1 exactly when the new
A is 0; NOTA twice, NOTB twice, NOTC twice restore the register with F.Z = 1 exactly when it is 0; nothing else but P
changes.
Basis: derived; R214, R224, 95_test_vectors.md section 5. -/
def Obligations.ThreeExclusiveOrsExchange : Prop :=
  ∀ s : State,
    (∃ t, execs [.xoraB, .xorbA, .xoraB] s = .next t ∧ t.A = s.B ∧ t.B = s.A ∧ (t.F.Z = true ↔ t.A.toNat = 0) ∧
      ChangesOnly [.A, .B, .Z, .P] s t) ∧
    (∃ t, execs [.nota, .nota] s = .next t ∧ (t.F.Z = true ↔ s.A.toNat = 0) ∧ ChangesOnly [.Z, .P] s t) ∧
    (∃ t, execs [.notb, .notb] s = .next t ∧ (t.F.Z = true ↔ s.B.toNat = 0) ∧ ChangesOnly [.Z, .P] s t) ∧
    (∃ t, execs [.notc, .notc] s = .next t ∧ (t.F.Z = true ↔ s.C.toNat = 0) ∧ ChangesOnly [.Z, .P] s t)

/-- From every state: STA a8 then LDB a8 leaves B equal to A; where S equals D, STA then LDB leaves B equal to A; and
where D is the address of the instruction after the STA, the next step of a running machine executes what the stored
byte begins. Spec decisions D22, D23 (logs 7, 20).
Basis: derived; 20_memory.md R53, 20_memory.md R55, R357. -/
def Obligations.AStoreIsSeenByTheNextLoadAndFetch : Prop :=
  (∀ (s : State) (a8 : Byte), ∃ t, execs [.staA8 a8, .ldbA8 a8] s = .next t ∧ t.B = s.A) ∧
    (∀ s : State, s.S = s.D → ∃ t, execs [.sta, .ldb] s = .next t ∧ t.B = s.A) ∧
    (∀ s : State, s.run = .running → s.D = s.nextAddr 1 → ∃ t, exec .sta s = .next t ∧
      ∀ i rest, decode (s.A :: t.bytesAt 3 (t.nextAddr 1)) = .ok (i, rest) → step t = exec i t)
end

