-- ==== Sys2Proof/Laws/State.lean ====
section
/-! SUPPORT. One lemma per field per update of State, and what each update leaves of the reads. -/

namespace Sys2Proof.Machine

variable (s : State)

/-! ### Reading a named register -/

@[simp] theorem State.reg8_A : s.reg8 .A = s.A := rfl
@[simp] theorem State.reg8_B : s.reg8 .B = s.B := rfl
@[simp] theorem State.reg8_C : s.reg8 .C = s.C := rfl
@[simp] theorem State.reg24_S : s.reg24 .S = s.S := rfl
@[simp] theorem State.reg24_D : s.reg24 .D = s.D := rfl

/-! ### setFlags -/

@[simp] theorem State.setFlags_A (f : Flags) : (s.setFlags f).A = s.A := rfl
@[simp] theorem State.setFlags_B (f : Flags) : (s.setFlags f).B = s.B := rfl
@[simp] theorem State.setFlags_C (f : Flags) : (s.setFlags f).C = s.C := rfl
@[simp] theorem State.setFlags_S (f : Flags) : (s.setFlags f).S = s.S := rfl
@[simp] theorem State.setFlags_D (f : Flags) : (s.setFlags f).D = s.D := rfl
@[simp] theorem State.setFlags_T (f : Flags) : (s.setFlags f).T = s.T := rfl
@[simp] theorem State.setFlags_P (f : Flags) : (s.setFlags f).P = s.P := rfl
@[simp] theorem State.setFlags_F (f : Flags) : (s.setFlags f).F = f := rfl
@[simp] theorem State.setFlags_run (f : Flags) : (s.setFlags f).run = s.run := rfl
@[simp] theorem State.setFlags_mem (f : Flags) : (s.setFlags f).mem = s.mem := rfl
@[simp] theorem State.setFlags_stackBase (f : Flags) : (s.setFlags f).stackBase = s.stackBase := rfl
@[simp] theorem State.setFlags_memRead (f : Flags) (b : Addr) : (s.setFlags f).memRead b = s.memRead b := rfl
@[simp] theorem State.setFlags_stackAddr (f : Flags) (k : StackPos) : (s.setFlags f).stackAddr k = s.stackAddr k := rfl
@[simp] theorem State.setFlags_nextAddr (f : Flags) (k : Nat) : (s.setFlags f).nextAddr k = s.nextAddr k := rfl
@[simp] theorem State.setFlags_reg8 (f : Flags) (q : Reg8) : (s.setFlags f).reg8 q = s.reg8 q := rfl
@[simp] theorem State.setFlags_reg24 (f : Flags) (q : Reg24) : (s.setFlags f).reg24 q = s.reg24 q := rfl

/-! ### setP -/

@[simp] theorem State.setP_A (a : Addr) : (s.setP a).A = s.A := rfl
@[simp] theorem State.setP_B (a : Addr) : (s.setP a).B = s.B := rfl
@[simp] theorem State.setP_C (a : Addr) : (s.setP a).C = s.C := rfl
@[simp] theorem State.setP_S (a : Addr) : (s.setP a).S = s.S := rfl
@[simp] theorem State.setP_D (a : Addr) : (s.setP a).D = s.D := rfl
@[simp] theorem State.setP_T (a : Addr) : (s.setP a).T = s.T := rfl
@[simp] theorem State.setP_P (a : Addr) : (s.setP a).P = a := rfl
@[simp] theorem State.setP_F (a : Addr) : (s.setP a).F = s.F := rfl
@[simp] theorem State.setP_run (a : Addr) : (s.setP a).run = s.run := rfl
@[simp] theorem State.setP_mem (a : Addr) : (s.setP a).mem = s.mem := rfl
@[simp] theorem State.setP_stackBase (a : Addr) : (s.setP a).stackBase = s.stackBase := rfl
@[simp] theorem State.setP_memRead (a : Addr) (b : Addr) : (s.setP a).memRead b = s.memRead b := rfl
@[simp] theorem State.setP_stackAddr (a : Addr) (k : StackPos) : (s.setP a).stackAddr k = s.stackAddr k := rfl
@[simp] theorem State.setP_reg8 (a : Addr) (q : Reg8) : (s.setP a).reg8 q = s.reg8 q := rfl
@[simp] theorem State.setP_reg24 (a : Addr) (q : Reg24) : (s.setP a).reg24 q = s.reg24 q := rfl

/-! ### advance -/

@[simp] theorem State.advance_A (L : Nat) : (s.advance L).A = s.A := rfl
@[simp] theorem State.advance_B (L : Nat) : (s.advance L).B = s.B := rfl
@[simp] theorem State.advance_C (L : Nat) : (s.advance L).C = s.C := rfl
@[simp] theorem State.advance_S (L : Nat) : (s.advance L).S = s.S := rfl
@[simp] theorem State.advance_D (L : Nat) : (s.advance L).D = s.D := rfl
@[simp] theorem State.advance_T (L : Nat) : (s.advance L).T = s.T := rfl
@[simp] theorem State.advance_P (L : Nat) : (s.advance L).P = s.nextAddr L := rfl
@[simp] theorem State.advance_F (L : Nat) : (s.advance L).F = s.F := rfl
@[simp] theorem State.advance_run (L : Nat) : (s.advance L).run = s.run := rfl
@[simp] theorem State.advance_mem (L : Nat) : (s.advance L).mem = s.mem := rfl
@[simp] theorem State.advance_stackBase (L : Nat) : (s.advance L).stackBase = s.stackBase := rfl
@[simp] theorem State.advance_memRead (L : Nat) (b : Addr) : (s.advance L).memRead b = s.memRead b := rfl
@[simp] theorem State.advance_stackAddr (L : Nat) (k : StackPos) : (s.advance L).stackAddr k = s.stackAddr k := rfl
@[simp] theorem State.advance_reg8 (L : Nat) (q : Reg8) : (s.advance L).reg8 q = s.reg8 q := rfl
@[simp] theorem State.advance_reg24 (L : Nat) (q : Reg24) : (s.advance L).reg24 q = s.reg24 q := rfl

/-! ### setT -/

@[simp] theorem State.setT_A (t : StackPos) : (s.setT t).A = s.A := rfl
@[simp] theorem State.setT_B (t : StackPos) : (s.setT t).B = s.B := rfl
@[simp] theorem State.setT_C (t : StackPos) : (s.setT t).C = s.C := rfl
@[simp] theorem State.setT_S (t : StackPos) : (s.setT t).S = s.S := rfl
@[simp] theorem State.setT_D (t : StackPos) : (s.setT t).D = s.D := rfl
@[simp] theorem State.setT_T (t : StackPos) : (s.setT t).T = t := rfl
@[simp] theorem State.setT_P (t : StackPos) : (s.setT t).P = s.P := rfl
@[simp] theorem State.setT_F (t : StackPos) : (s.setT t).F = s.F := rfl
@[simp] theorem State.setT_run (t : StackPos) : (s.setT t).run = s.run := rfl
@[simp] theorem State.setT_mem (t : StackPos) : (s.setT t).mem = s.mem := rfl
@[simp] theorem State.setT_stackBase (t : StackPos) : (s.setT t).stackBase = s.stackBase := rfl
@[simp] theorem State.setT_memRead (t : StackPos) (b : Addr) : (s.setT t).memRead b = s.memRead b := rfl
@[simp] theorem State.setT_stackAddr (t : StackPos) (k : StackPos) : (s.setT t).stackAddr k = s.stackAddr k := rfl
@[simp] theorem State.setT_nextAddr (t : StackPos) (k : Nat) : (s.setT t).nextAddr k = s.nextAddr k := rfl
@[simp] theorem State.setT_reg8 (t : StackPos) (q : Reg8) : (s.setT t).reg8 q = s.reg8 q := rfl
@[simp] theorem State.setT_reg24 (t : StackPos) (q : Reg24) : (s.setT t).reg24 q = s.reg24 q := rfl

/-! ### setRun -/

@[simp] theorem State.setRun_A (r : RunState) : (s.setRun r).A = s.A := rfl
@[simp] theorem State.setRun_B (r : RunState) : (s.setRun r).B = s.B := rfl
@[simp] theorem State.setRun_C (r : RunState) : (s.setRun r).C = s.C := rfl
@[simp] theorem State.setRun_S (r : RunState) : (s.setRun r).S = s.S := rfl
@[simp] theorem State.setRun_D (r : RunState) : (s.setRun r).D = s.D := rfl
@[simp] theorem State.setRun_T (r : RunState) : (s.setRun r).T = s.T := rfl
@[simp] theorem State.setRun_P (r : RunState) : (s.setRun r).P = s.P := rfl
@[simp] theorem State.setRun_F (r : RunState) : (s.setRun r).F = s.F := rfl
@[simp] theorem State.setRun_run (r : RunState) : (s.setRun r).run = r := rfl
@[simp] theorem State.setRun_mem (r : RunState) : (s.setRun r).mem = s.mem := rfl
@[simp] theorem State.setRun_stackBase (r : RunState) : (s.setRun r).stackBase = s.stackBase := rfl
@[simp] theorem State.setRun_memRead (r : RunState) (b : Addr) : (s.setRun r).memRead b = s.memRead b := rfl
@[simp] theorem State.setRun_stackAddr (r : RunState) (k : StackPos) : (s.setRun r).stackAddr k = s.stackAddr k := rfl
@[simp] theorem State.setRun_nextAddr (r : RunState) (k : Nat) : (s.setRun r).nextAddr k = s.nextAddr k := rfl
@[simp] theorem State.setRun_reg8 (r : RunState) (q : Reg8) : (s.setRun r).reg8 q = s.reg8 q := rfl
@[simp] theorem State.setRun_reg24 (r : RunState) (q : Reg24) : (s.setRun r).reg24 q = s.reg24 q := rfl

/-! ### halt -/

@[simp] theorem State.halt_A : (s.halt).A = s.A := rfl
@[simp] theorem State.halt_B : (s.halt).B = s.B := rfl
@[simp] theorem State.halt_C : (s.halt).C = s.C := rfl
@[simp] theorem State.halt_S : (s.halt).S = s.S := rfl
@[simp] theorem State.halt_D : (s.halt).D = s.D := rfl
@[simp] theorem State.halt_T : (s.halt).T = s.T := rfl
@[simp] theorem State.halt_P : (s.halt).P = s.P := rfl
@[simp] theorem State.halt_F : (s.halt).F = s.F := rfl
@[simp] theorem State.halt_run : (s.halt).run = .halted := rfl
@[simp] theorem State.halt_mem : (s.halt).mem = s.mem := rfl
@[simp] theorem State.halt_stackBase : (s.halt).stackBase = s.stackBase := rfl
@[simp] theorem State.halt_memRead (b : Addr) : (s.halt).memRead b = s.memRead b := rfl
@[simp] theorem State.halt_stackAddr (k : StackPos) : (s.halt).stackAddr k = s.stackAddr k := rfl
@[simp] theorem State.halt_nextAddr (k : Nat) : (s.halt).nextAddr k = s.nextAddr k := rfl
@[simp] theorem State.halt_reg8 (q : Reg8) : (s.halt).reg8 q = s.reg8 q := rfl
@[simp] theorem State.halt_reg24 (q : Reg24) : (s.halt).reg24 q = s.reg24 q := rfl

/-! ### raiseIllegalOpcode -/

@[simp] theorem State.raiseIllegalOpcode_A (op : Byte) : (s.raiseIllegalOpcode op).A = s.A := rfl
@[simp] theorem State.raiseIllegalOpcode_B (op : Byte) : (s.raiseIllegalOpcode op).B = s.B := rfl
@[simp] theorem State.raiseIllegalOpcode_C (op : Byte) : (s.raiseIllegalOpcode op).C = s.C := rfl
@[simp] theorem State.raiseIllegalOpcode_S (op : Byte) : (s.raiseIllegalOpcode op).S = s.S := rfl
@[simp] theorem State.raiseIllegalOpcode_D (op : Byte) : (s.raiseIllegalOpcode op).D = s.D := rfl
@[simp] theorem State.raiseIllegalOpcode_T (op : Byte) : (s.raiseIllegalOpcode op).T = s.T := rfl
@[simp] theorem State.raiseIllegalOpcode_P (op : Byte) : (s.raiseIllegalOpcode op).P = s.P := rfl
@[simp] theorem State.raiseIllegalOpcode_F (op : Byte) : (s.raiseIllegalOpcode op).F = s.F := rfl
@[simp] theorem State.raiseIllegalOpcode_run (op : Byte) : (s.raiseIllegalOpcode op).run = .faulted op s.P := rfl
@[simp] theorem State.raiseIllegalOpcode_mem (op : Byte) : (s.raiseIllegalOpcode op).mem = s.mem := rfl
@[simp] theorem State.raiseIllegalOpcode_stackBase (op : Byte) : (s.raiseIllegalOpcode op).stackBase = s.stackBase := rfl
@[simp] theorem State.raiseIllegalOpcode_memRead (op : Byte) (b : Addr) : (s.raiseIllegalOpcode op).memRead b = s.memRead b := rfl
@[simp] theorem State.raiseIllegalOpcode_stackAddr (op : Byte) (k : StackPos) : (s.raiseIllegalOpcode op).stackAddr k = s.stackAddr k := rfl
@[simp] theorem State.raiseIllegalOpcode_nextAddr (op : Byte) (k : Nat) : (s.raiseIllegalOpcode op).nextAddr k = s.nextAddr k := rfl
@[simp] theorem State.raiseIllegalOpcode_reg8 (op : Byte) (q : Reg8) : (s.raiseIllegalOpcode op).reg8 q = s.reg8 q := rfl
@[simp] theorem State.raiseIllegalOpcode_reg24 (op : Byte) (q : Reg24) : (s.raiseIllegalOpcode op).reg24 q = s.reg24 q := rfl

/-! ### memWrite -/

@[simp] theorem State.memWrite_A (a : Addr) (v : Byte) : (s.memWrite a v).A = s.A := rfl
@[simp] theorem State.memWrite_B (a : Addr) (v : Byte) : (s.memWrite a v).B = s.B := rfl
@[simp] theorem State.memWrite_C (a : Addr) (v : Byte) : (s.memWrite a v).C = s.C := rfl
@[simp] theorem State.memWrite_S (a : Addr) (v : Byte) : (s.memWrite a v).S = s.S := rfl
@[simp] theorem State.memWrite_D (a : Addr) (v : Byte) : (s.memWrite a v).D = s.D := rfl
@[simp] theorem State.memWrite_T (a : Addr) (v : Byte) : (s.memWrite a v).T = s.T := rfl
@[simp] theorem State.memWrite_P (a : Addr) (v : Byte) : (s.memWrite a v).P = s.P := rfl
@[simp] theorem State.memWrite_F (a : Addr) (v : Byte) : (s.memWrite a v).F = s.F := rfl
@[simp] theorem State.memWrite_run (a : Addr) (v : Byte) : (s.memWrite a v).run = s.run := rfl
@[simp] theorem State.memWrite_mem (a : Addr) (v : Byte) : (s.memWrite a v).mem = Memory.insert s.mem a.toNat v := rfl
@[simp] theorem State.memWrite_stackBase (a : Addr) (v : Byte) : (s.memWrite a v).stackBase = s.stackBase := rfl
@[simp] theorem State.memWrite_stackAddr (a : Addr) (v : Byte) (k : StackPos) : (s.memWrite a v).stackAddr k = s.stackAddr k := rfl
@[simp] theorem State.memWrite_nextAddr (a : Addr) (v : Byte) (k : Nat) : (s.memWrite a v).nextAddr k = s.nextAddr k := rfl
@[simp] theorem State.memWrite_reg8 (a : Addr) (v : Byte) (q : Reg8) : (s.memWrite a v).reg8 q = s.reg8 q := rfl
@[simp] theorem State.memWrite_reg24 (a : Addr) (v : Byte) (q : Reg24) : (s.memWrite a v).reg24 q = s.reg24 q := rfl

/-! ### setReg8 -/

@[simp] theorem State.setReg8_A_A (v : Byte) : (s.setReg8 .A v).A = v := rfl
@[simp] theorem State.setReg8_A_B (v : Byte) : (s.setReg8 .A v).B = s.B := rfl
@[simp] theorem State.setReg8_A_C (v : Byte) : (s.setReg8 .A v).C = s.C := rfl
@[simp] theorem State.setReg8_B_A (v : Byte) : (s.setReg8 .B v).A = s.A := rfl
@[simp] theorem State.setReg8_B_B (v : Byte) : (s.setReg8 .B v).B = v := rfl
@[simp] theorem State.setReg8_B_C (v : Byte) : (s.setReg8 .B v).C = s.C := rfl
@[simp] theorem State.setReg8_C_A (v : Byte) : (s.setReg8 .C v).A = s.A := rfl
@[simp] theorem State.setReg8_C_B (v : Byte) : (s.setReg8 .C v).B = s.B := rfl
@[simp] theorem State.setReg8_C_C (v : Byte) : (s.setReg8 .C v).C = v := rfl
@[simp] theorem State.setReg8_S (r : Reg8) (v : Byte) : (s.setReg8 r v).S = s.S := by cases r <;> rfl
@[simp] theorem State.setReg8_D (r : Reg8) (v : Byte) : (s.setReg8 r v).D = s.D := by cases r <;> rfl
@[simp] theorem State.setReg8_T (r : Reg8) (v : Byte) : (s.setReg8 r v).T = s.T := by cases r <;> rfl
@[simp] theorem State.setReg8_P (r : Reg8) (v : Byte) : (s.setReg8 r v).P = s.P := by cases r <;> rfl
@[simp] theorem State.setReg8_F (r : Reg8) (v : Byte) : (s.setReg8 r v).F = s.F := by cases r <;> rfl
@[simp] theorem State.setReg8_run (r : Reg8) (v : Byte) : (s.setReg8 r v).run = s.run := by cases r <;> rfl
@[simp] theorem State.setReg8_mem (r : Reg8) (v : Byte) : (s.setReg8 r v).mem = s.mem := by cases r <;> rfl
@[simp] theorem State.setReg8_stackBase (r : Reg8) (v : Byte) : (s.setReg8 r v).stackBase = s.stackBase := by cases r <;> rfl
@[simp] theorem State.setReg8_same (r : Reg8) (v : Byte) : (s.setReg8 r v).reg8 r = v := by cases r <;> rfl
theorem State.setReg8_other (r q : Reg8) (v : Byte) (h : q ≠ r) : (s.setReg8 r v).reg8 q = s.reg8 q := by
  cases r <;> cases q <;> first | rfl | exact absurd rfl h
@[simp] theorem State.setReg8_reg24 (r : Reg8) (v : Byte) (q : Reg24) : (s.setReg8 r v).reg24 q = s.reg24 q := by cases r <;> rfl
@[simp] theorem State.setReg8_memRead (r : Reg8) (v : Byte) (b : Addr) : (s.setReg8 r v).memRead b = s.memRead b := by cases r <;> rfl
@[simp] theorem State.setReg8_stackAddr (r : Reg8) (v : Byte) (k : StackPos) : (s.setReg8 r v).stackAddr k = s.stackAddr k := by
  cases r <;> rfl
@[simp] theorem State.setReg8_nextAddr (r : Reg8) (v : Byte) (k : Nat) : (s.setReg8 r v).nextAddr k = s.nextAddr k := by
  cases r <;> rfl

/-! ### setReg24 -/

@[simp] theorem State.setReg24_S_S (v : Addr) : (s.setReg24 .S v).S = v := rfl
@[simp] theorem State.setReg24_S_D (v : Addr) : (s.setReg24 .S v).D = s.D := rfl
@[simp] theorem State.setReg24_D_S (v : Addr) : (s.setReg24 .D v).S = s.S := rfl
@[simp] theorem State.setReg24_D_D (v : Addr) : (s.setReg24 .D v).D = v := rfl
@[simp] theorem State.setReg24_A (r : Reg24) (v : Addr) : (s.setReg24 r v).A = s.A := by cases r <;> rfl
@[simp] theorem State.setReg24_B (r : Reg24) (v : Addr) : (s.setReg24 r v).B = s.B := by cases r <;> rfl
@[simp] theorem State.setReg24_C (r : Reg24) (v : Addr) : (s.setReg24 r v).C = s.C := by cases r <;> rfl
@[simp] theorem State.setReg24_T (r : Reg24) (v : Addr) : (s.setReg24 r v).T = s.T := by cases r <;> rfl
@[simp] theorem State.setReg24_P (r : Reg24) (v : Addr) : (s.setReg24 r v).P = s.P := by cases r <;> rfl
@[simp] theorem State.setReg24_F (r : Reg24) (v : Addr) : (s.setReg24 r v).F = s.F := by cases r <;> rfl
@[simp] theorem State.setReg24_run (r : Reg24) (v : Addr) : (s.setReg24 r v).run = s.run := by cases r <;> rfl
@[simp] theorem State.setReg24_mem (r : Reg24) (v : Addr) : (s.setReg24 r v).mem = s.mem := by cases r <;> rfl
@[simp] theorem State.setReg24_stackBase (r : Reg24) (v : Addr) : (s.setReg24 r v).stackBase = s.stackBase := by cases r <;> rfl
@[simp] theorem State.setReg24_same (r : Reg24) (v : Addr) : (s.setReg24 r v).reg24 r = v := by cases r <;> rfl
theorem State.setReg24_other (r q : Reg24) (v : Addr) (h : q ≠ r) : (s.setReg24 r v).reg24 q = s.reg24 q := by
  cases r <;> cases q <;> first | rfl | exact absurd rfl h
@[simp] theorem State.setReg24_reg8 (r : Reg24) (v : Addr) (q : Reg8) : (s.setReg24 r v).reg8 q = s.reg8 q := by cases r <;> rfl
@[simp] theorem State.setReg24_memRead (r : Reg24) (v : Addr) (b : Addr) : (s.setReg24 r v).memRead b = s.memRead b := by cases r <;> rfl
@[simp] theorem State.setReg24_stackAddr (r : Reg24) (v : Addr) (k : StackPos) : (s.setReg24 r v).stackAddr k = s.stackAddr k := by
  cases r <;> rfl
@[simp] theorem State.setReg24_nextAddr (r : Reg24) (v : Addr) (k : Nat) : (s.setReg24 r v).nextAddr k = s.nextAddr k := by
  cases r <;> rfl

/-! ### Flags -/

@[simp] theorem Flags.withResult_G {w : Nat} (res : BitVec w) (f : Flags) : (f.withResult res).G = f.G := rfl
@[simp] theorem Flags.withResult_E {w : Nat} (res : BitVec w) (f : Flags) : (f.withResult res).E = f.E := rfl
@[simp] theorem Flags.withResult_C {w : Nat} (res : BitVec w) (f : Flags) : (f.withResult res).C = f.C := rfl
@[simp] theorem Flags.withResult_Z {w : Nat} (res : BitVec w) (f : Flags) : (f.withResult res).Z = isZero res := rfl
@[simp] theorem Flags.withInc_G {w : Nat} (x : BitVec w) (f : Flags) : (f.withInc x).G = f.G := rfl
@[simp] theorem Flags.withInc_E {w : Nat} (x : BitVec w) (f : Flags) : (f.withInc x).E = f.E := rfl
@[simp] theorem Flags.withInc_C {w : Nat} (x : BitVec w) (f : Flags) : (f.withInc x).C = incCarry x := rfl
@[simp] theorem Flags.withInc_Z {w : Nat} (x : BitVec w) (f : Flags) : (f.withInc x).Z = f.Z := rfl
@[simp] theorem Flags.withDec_G {w : Nat} (x : BitVec w) (f : Flags) : (f.withDec x).G = f.G := rfl
@[simp] theorem Flags.withDec_E {w : Nat} (x : BitVec w) (f : Flags) : (f.withDec x).E = f.E := rfl
@[simp] theorem Flags.withDec_C {w : Nat} (x : BitVec w) (f : Flags) : (f.withDec x).C = decCarry x := rfl
@[simp] theorem Flags.withDec_Z {w : Nat} (x : BitVec w) (f : Flags) : (f.withDec x).Z = isZero (x - 1) := rfl
@[simp] theorem Flags.withAdd_G {w : Nat} (x v : BitVec w) (f : Flags) : (f.withAdd x v).G = f.G := rfl
@[simp] theorem Flags.withAdd_E {w : Nat} (x v : BitVec w) (f : Flags) : (f.withAdd x v).E = f.E := rfl
@[simp] theorem Flags.withAdd_C {w : Nat} (x v : BitVec w) (f : Flags) : (f.withAdd x v).C = addCarry x v := rfl
@[simp] theorem Flags.withAdd_Z {w : Nat} (x v : BitVec w) (f : Flags) : (f.withAdd x v).Z = f.Z := rfl
@[simp] theorem Flags.withSub_G {w : Nat} (x v : BitVec w) (f : Flags) : (f.withSub x v).G = f.G := rfl
@[simp] theorem Flags.withSub_E {w : Nat} (x v : BitVec w) (f : Flags) : (f.withSub x v).E = f.E := rfl
@[simp] theorem Flags.withSub_C {w : Nat} (x v : BitVec w) (f : Flags) : (f.withSub x v).C = subCarry x v := rfl
@[simp] theorem Flags.withSub_Z {w : Nat} (x v : BitVec w) (f : Flags) : (f.withSub x v).Z = isZero (x - v) := rfl
@[simp] theorem Flags.withTst_G (x : Byte) (ib : Nat) (f : Flags) : (f.withTst x ib).G = f.G := rfl
@[simp] theorem Flags.withTst_E (x : Byte) (ib : Nat) (f : Flags) : (f.withTst x ib).E = f.E := rfl
@[simp] theorem Flags.withTst_C (x : Byte) (ib : Nat) (f : Flags) : (f.withTst x ib).C = f.C := rfl
@[simp] theorem Flags.withTst_Z (x : Byte) (ib : Nat) (f : Flags) : (f.withTst x ib).Z = tstZero x ib := rfl
@[simp] theorem Flags.withCmp_G (x v : Byte) (f : Flags) : (f.withCmp x v).G = cmpGreater x v := rfl
@[simp] theorem Flags.withCmp_E (x v : Byte) (f : Flags) : (f.withCmp x v).E = cmpEqual x v := rfl
@[simp] theorem Flags.withCmp_C (x v : Byte) (f : Flags) : (f.withCmp x v).C = f.C := rfl
@[simp] theorem Flags.withCmp_Z (x v : Byte) (f : Flags) : (f.withCmp x v).Z = f.Z := rfl
@[simp] theorem Flags.clear_G : Flags.clear.G = false := rfl
@[simp] theorem Flags.clear_E : Flags.clear.E = false := rfl
@[simp] theorem Flags.clear_C : Flags.clear.C = false := rfl
@[simp] theorem Flags.clear_Z : Flags.clear.Z = false := rfl

@[simp] theorem isZero_iff {w : Nat} (x : BitVec w) : isZero x = true ↔ x.toNat = 0 := by simp [isZero]
@[simp] theorem incCarry_iff {w : Nat} (x : BitVec w) : incCarry x = true ↔ x.toNat = 2 ^ w - 1 := by simp [incCarry]
@[simp] theorem decCarry_iff {w : Nat} (x : BitVec w) : decCarry x = true ↔ x.toNat = 0 := by simp [decCarry]
@[simp] theorem addCarry_iff {w : Nat} (x v : BitVec w) : addCarry x v = true ↔ 2 ^ w - 1 < x.toNat + v.toNat := by
  simp [addCarry]
@[simp] theorem subCarry_iff {w : Nat} (x v : BitVec w) : subCarry x v = true ↔ x.toNat < v.toNat := by simp [subCarry]
@[simp] theorem cmpGreater_iff (x v : Byte) : cmpGreater x v = true ↔ v.toNat < x.toNat := by simp [cmpGreater]
@[simp] theorem cmpEqual_iff (x v : Byte) : cmpEqual x v = true ↔ x.toNat = v.toNat := by simp [cmpEqual]

end Sys2Proof.Machine
end

