-- ==== Sys2Proof/Laws/Memory.lean ====
section
/-! SUPPORT. Memory: a read after a write, the canonical form kept by every operation, equal reads give equal memories. -/

namespace Sys2Proof.Machine

theorem Memory.lookup_insert_self (m : Memory) (a : Nat) (v : Byte) :
    Memory.lookup (Memory.insert m a v) a = some v := by
  induction m with
  | nil => simp [Memory.insert, Memory.lookup]
  | cons c m ih =>
    obtain ⟨k, w⟩ := c
    simp only [Memory.insert]
    split
    · simp [Memory.lookup]
    · split
      · rename_i h; simp [Memory.lookup, h]
      · rename_i h; simp [Memory.lookup, h, ih]

theorem Memory.lookup_insert_other (m : Memory) (a b : Nat) (v : Byte) (h : b ≠ a) :
    Memory.lookup (Memory.insert m a v) b = Memory.lookup m b := by
  induction m with
  | nil => simp [Memory.insert, Memory.lookup, h]
  | cons c m ih =>
    obtain ⟨k, w⟩ := c
    simp only [Memory.insert]
    split
    · simp [Memory.lookup, h]
    · split
      · rename_i hk; subst hk; simp [Memory.lookup, h]
      · simp [Memory.lookup, ih]

/-- What `MemWrite` does to every read (`20_memory.md` R41). -/
theorem State.memRead_memWrite (s : State) (a b : Addr) (v : Byte) :
    (s.memWrite a v).memRead b = if b = a then v else s.memRead b := by
  by_cases h : b = a
  · subst h; simp [State.memRead, State.memWrite, Memory.lookup_insert_self]
  · have hn : b.toNat ≠ a.toNat := fun e => h (BitVec.eq_of_toNat_eq e)
    simp [State.memRead, State.memWrite, Memory.lookup_insert_other _ _ _ _ hn, h]

@[simp] theorem State.memRead_memWrite_self (s : State) (a : Addr) (v : Byte) : (s.memWrite a v).memRead a = v := by
  simp [State.memRead_memWrite]

theorem State.memRead_memWrite_other (s : State) (a b : Addr) (v : Byte) (h : b ≠ a) :
    (s.memWrite a v).memRead b = s.memRead b := by
  simp [State.memRead_memWrite, h]

/-! ### The canonical form -/

/-- The form of the tail, and the head below whatever the tail starts with. -/
theorem Memory.wf_cons (c : Host.Cell) (m : Memory) :
    Memory.wf (c :: m) = true ↔ c.1 < 2 ^ 24 ∧ Memory.wf m = true ∧ ∀ d ∈ m.head?, c.1 < d.1 := by
  induction m generalizing c with
  | nil => simp [Memory.wf]
  | cons d m ih =>
    have hd : Memory.wf (d :: m) = true → d.1 < 2 ^ 24 := fun h => ((ih d).1 h).1
    simp only [Memory.wf, Bool.and_eq_true, decide_eq_true_eq, List.head?_cons, Option.mem_def, Option.some.injEq,
      forall_eq']
    constructor
    · rintro ⟨h1, h2⟩
      exact ⟨lt_trans h1 (hd h2), h2, h1⟩
    · rintro ⟨-, h2, h1⟩
      exact ⟨h1, h2⟩

theorem Memory.head_insert (m : Memory) (a : Nat) (v : Byte) (k : Nat) (hka : k < a) (h : ∀ d ∈ m.head?, k < d.1) :
    ∀ d ∈ (Memory.insert m a v).head?, k < d.1 := by
  cases m with
  | nil => simpa [Memory.insert] using hka
  | cons c m =>
    obtain ⟨j, w⟩ := c
    simp only [Memory.insert]
    split
    · simpa using hka
    · split <;> simpa using h

/-- A write keeps the canonical form. -/
theorem Memory.wf_insert (m : Memory) (a : Nat) (v : Byte) (ha : a < 2 ^ 24) (h : Memory.wf m = true) :
    Memory.wf (Memory.insert m a v) = true := by
  induction m with
  | nil => simpa [Memory.insert, Memory.wf] using ha
  | cons c m ih =>
    obtain ⟨k, w⟩ := c
    have hc := (Memory.wf_cons (k, w) m).1 h
    simp only [Memory.insert]
    split
    · rename_i hlt
      exact (Memory.wf_cons _ _).2 ⟨ha, h, by simpa using hlt⟩
    · rename_i hlt
      split
      · exact (Memory.wf_cons _ _).2 hc
      · rename_i hne
        have hlt' : k < a := by omega
        exact (Memory.wf_cons _ _).2 ⟨hc.1, ih hc.2.1, Memory.head_insert m a v k hlt' hc.2.2⟩

theorem State.wf_memWrite (s : State) (a : Addr) (v : Byte) (h : Memory.wf s.mem = true) :
    Memory.wf (s.memWrite a v).mem = true :=
  Memory.wf_insert _ _ _ a.isLt h

theorem State.wf_storeBytes (vs : List Byte) (a : Addr) (s : State) (h : Memory.wf s.mem = true) :
    Memory.wf (s.storeBytes a vs).mem = true := by
  induction vs generalizing a s with
  | nil => exact h
  | cons v vs ih => exact ih _ _ (State.wf_memWrite s a v h)

theorem State.wf_push8 (s : State) (v : Byte) (h : Memory.wf s.mem = true) : Memory.wf (s.push8 v).mem = true :=
  State.wf_memWrite s _ v h

theorem State.wf_push24 (s : State) (w : Addr) (h : Memory.wf s.mem = true) : Memory.wf (s.push24 w).mem = true :=
  State.wf_push8 _ _ (State.wf_push8 _ _ (State.wf_push8 _ _ h))

theorem State.wf_reset : Memory.wf State.reset.mem = true := rfl

/-- Below the first listed address nothing is listed. -/
theorem Memory.lookup_below (m : Memory) (a : Nat) (h : Memory.wf m = true) (hb : ∀ d ∈ m.head?, a < d.1) :
    Memory.lookup m a = none := by
  induction m with
  | nil => rfl
  | cons c m ih =>
    obtain ⟨k, w⟩ := c
    have hc := (Memory.wf_cons (k, w) m).1 h
    have hk : a < k := by simpa using hb
    rw [Memory.lookup, if_neg (Nat.ne_of_lt hk)]
    exact ih hc.2.1 fun d hd => lt_trans hk (hc.2.2 d hd)

/-- In the canonical form, memories that list the same byte at every address are the same list. -/
theorem Memory.eq_of_lookup_eq (m n : Memory) (hm : Memory.wf m = true) (hn : Memory.wf n = true)
    (h : ∀ a, Memory.lookup m a = Memory.lookup n a) : m = n := by
  induction m generalizing n with
  | nil =>
    cases n with
    | nil => rfl
    | cons c n => obtain ⟨k, w⟩ := c; simpa [Memory.lookup] using h k
  | cons c m ih =>
    obtain ⟨k, w⟩ := c
    cases n with
    | nil => simpa [Memory.lookup] using h k
    | cons d n =>
      obtain ⟨j, x⟩ := d
      have hc := (Memory.wf_cons (k, w) m).1 hm
      have hd := (Memory.wf_cons (j, x) n).1 hn
      have hkj : k = j := by
        rcases Nat.lt_trichotomy k j with hlt | heq | hgt
        · have h1 := h k
          rw [Memory.lookup, if_pos rfl, Memory.lookup_below _ k hn (by simpa using hlt)] at h1
          exact absurd h1 (by simp)
        · exact heq
        · have h1 := h j
          rw [Memory.lookup_below _ j hm (by simpa using hgt), Memory.lookup, if_pos rfl] at h1
          exact absurd h1 (by simp)
      subst hkj
      have hwx : w = x := by simpa [Memory.lookup] using h k
      subst hwx
      refine congrArg _ (ih n hc.2.1 hd.2.1 fun a => ?_)
      by_cases ha : a = k
      · subst ha
        rw [Memory.lookup_below m a hc.2.1 hc.2.2, Memory.lookup_below n a hd.2.1 hd.2.2]
      · simpa [Memory.lookup, ha] using h a

end Sys2Proof.Machine
end

