-- ==== Sys2Proof/Laws/Stack.lean ====
section
/-! SUPPORT. The stack primitives: everything a push and a pop do (`20_memory.md` R44 to R48). -/

namespace Sys2Proof.Machine

variable (s : State)

/-- Two stack positions select the same byte only when they are equal: the stack is shorter than memory. -/
theorem State.stackAddr_inj (t u : StackPos) : s.stackAddr t = s.stackAddr u ↔ t = u := by
  constructor
  · intro h
    have h' : t.setWidth 24 = u.setWidth 24 := by simpa [State.stackAddr] using h
    apply BitVec.eq_of_toNat_eq
    have h2 := congrArg BitVec.toNat h'
    simp only [BitVec.toNat_setWidth] at h2
    have := t.isLt
    have := u.isLt
    omega
  · rintro rfl; rfl

/-- Everything `Push8` does. -/
theorem State.push8_spec (v : Byte) :
    (s.push8 v).T = s.T + 1#12 ∧
    (∀ b, (s.push8 v).memRead b = if b = s.stackAddr s.T then v else s.memRead b) ∧
    (s.push8 v).A = s.A ∧ (s.push8 v).B = s.B ∧ (s.push8 v).C = s.C ∧ (s.push8 v).S = s.S ∧ (s.push8 v).D = s.D ∧
    (s.push8 v).P = s.P ∧ (s.push8 v).F = s.F ∧ (s.push8 v).run = s.run ∧ (s.push8 v).stackBase = s.stackBase :=
  ⟨rfl, fun b => State.memRead_memWrite s _ b v, rfl, rfl, rfl, rfl, rfl, rfl, rfl, rfl, rfl⟩

@[simp] theorem State.push8_T (v : Byte) : (s.push8 v).T = s.T + 1#12 := rfl
@[simp] theorem State.push8_A (v : Byte) : (s.push8 v).A = s.A := rfl
@[simp] theorem State.push8_B (v : Byte) : (s.push8 v).B = s.B := rfl
@[simp] theorem State.push8_C (v : Byte) : (s.push8 v).C = s.C := rfl
@[simp] theorem State.push8_S (v : Byte) : (s.push8 v).S = s.S := rfl
@[simp] theorem State.push8_D (v : Byte) : (s.push8 v).D = s.D := rfl
@[simp] theorem State.push8_P (v : Byte) : (s.push8 v).P = s.P := rfl
@[simp] theorem State.push8_F (v : Byte) : (s.push8 v).F = s.F := rfl
@[simp] theorem State.push8_run (v : Byte) : (s.push8 v).run = s.run := rfl
@[simp] theorem State.push8_stackBase (v : Byte) : (s.push8 v).stackBase = s.stackBase := rfl
@[simp] theorem State.push8_stackAddr (v : Byte) (t : StackPos) : (s.push8 v).stackAddr t = s.stackAddr t := rfl
@[simp] theorem State.push8_nextAddr (v : Byte) (L : Nat) : (s.push8 v).nextAddr L = s.nextAddr L := rfl
@[simp] theorem State.push8_reg8 (v : Byte) (q : Reg8) : (s.push8 v).reg8 q = s.reg8 q := by cases q <;> rfl
@[simp] theorem State.push8_reg24 (v : Byte) (q : Reg24) : (s.push8 v).reg24 q = s.reg24 q := by cases q <;> rfl
theorem State.push8_memRead (v : Byte) (b : Addr) :
    (s.push8 v).memRead b = if b = s.stackAddr s.T then v else s.memRead b :=
  State.memRead_memWrite s _ b v

@[simp] theorem State.push24_T (w : Addr) : (s.push24 w).T = s.T + 3#12 := by
  simp [State.push24, BitVec.add_assoc]
@[simp] theorem State.push24_A (w : Addr) : (s.push24 w).A = s.A := by simp [State.push24]
@[simp] theorem State.push24_B (w : Addr) : (s.push24 w).B = s.B := by simp [State.push24]
@[simp] theorem State.push24_C (w : Addr) : (s.push24 w).C = s.C := by simp [State.push24]
@[simp] theorem State.push24_S (w : Addr) : (s.push24 w).S = s.S := by simp [State.push24]
@[simp] theorem State.push24_D (w : Addr) : (s.push24 w).D = s.D := by simp [State.push24]
@[simp] theorem State.push24_P (w : Addr) : (s.push24 w).P = s.P := by simp [State.push24]
@[simp] theorem State.push24_F (w : Addr) : (s.push24 w).F = s.F := by simp [State.push24]
@[simp] theorem State.push24_run (w : Addr) : (s.push24 w).run = s.run := by simp [State.push24]
@[simp] theorem State.push24_stackBase (w : Addr) : (s.push24 w).stackBase = s.stackBase := by simp [State.push24]
@[simp] theorem State.push24_stackAddr (w : Addr) (t : StackPos) : (s.push24 w).stackAddr t = s.stackAddr t := by simp [State.push24]
@[simp] theorem State.push24_nextAddr (w : Addr) (L : Nat) : (s.push24 w).nextAddr L = s.nextAddr L := by simp [State.push24]

@[simp] theorem State.push24_reg8 (w : Addr) (q : Reg8) : (s.push24 w).reg8 q = s.reg8 q := by simp [State.push24]
@[simp] theorem State.push24_reg24 (w : Addr) (q : Reg24) : (s.push24 w).reg24 q = s.reg24 q := by simp [State.push24]

/-- Every byte of memory after `Push24`: the most significant byte lowest (R47). -/
theorem State.push24_memRead (w : Addr) (b : Addr) :
    (s.push24 w).memRead b =
      if b = s.stackAddr (s.T + 2#12) then byteOf24 w 0
      else if b = s.stackAddr (s.T + 1#12) then byteOf24 w 1
      else if b = s.stackAddr s.T then byteOf24 w 2
      else s.memRead b := by
  simp [State.push24, State.push8_memRead, BitVec.add_assoc]

/-- Everything `Pop8` does: only T changes. -/
theorem State.pop8_spec :
    s.pop8 = (s.memRead (s.stackAddr (s.T - 1#12)), s.setT (s.T - 1#12)) := rfl

@[simp] theorem State.pop8_fst : s.pop8.1 = s.memRead (s.stackAddr (s.T - 1#12)) := rfl
@[simp] theorem State.pop8_snd : s.pop8.2 = s.setT (s.T - 1#12) := rfl

/-- Everything `Pop24` does: the byte read first is the least significant, and only T changes (R47). -/
theorem State.pop24_spec :
    s.pop24 = (join24 (s.memRead (s.stackAddr (s.T - 3#12))) (s.memRead (s.stackAddr (s.T - 2#12)))
      (s.memRead (s.stackAddr (s.T - 1#12))), s.setT (s.T - 3#12)) := by
  have h2 : s.T - 1#12 - 1#12 = s.T - 2#12 := by bv_omega
  have h3 : s.T - 2#12 - 1#12 = s.T - 3#12 := by bv_omega
  simp only [State.pop24, State.pop8, State.setT_T, State.setT_stackAddr, State.setT_memRead, h2, h3]
  rfl

@[simp] theorem State.pop24_fst :
    s.pop24.1 = join24 (s.memRead (s.stackAddr (s.T - 3#12))) (s.memRead (s.stackAddr (s.T - 2#12)))
      (s.memRead (s.stackAddr (s.T - 1#12))) := by rw [State.pop24_spec]

@[simp] theorem State.pop24_snd : s.pop24.2 = s.setT (s.T - 3#12) := by rw [State.pop24_spec]

end Sys2Proof.Machine
end

