-- ==== Sys2Proof/Laws/Families.lean ====
section
/-! SUPPORT. For each operation that the meanings of a family share: everything it does, once. -/

namespace Sys2Proof.Machine

variable (s : State)

/-- The next address as a number (`10_state.md` R16, R17). -/
theorem State.nextAddr_toNat (L : Nat) : (s.nextAddr L).toNat = (s.P.toNat + L) % 2 ^ 24 := by
  simp [State.nextAddr, BitVec.toNat_add, BitVec.toNat_ofNat]

/-- The stack address as a number (`20_memory.md` R44). -/
theorem State.stackAddr_toNat (t : StackPos) : (s.stackAddr t).toNat = (s.stackBase.toNat + t.toNat) % 2 ^ 24 := by
  have := t.isLt
  simp only [State.stackAddr, BitVec.toNat_add, BitVec.toNat_setWidth]
  omega

/-- A zero-page address as a number (`20_memory.md` R43). -/
theorem zeroPageAddr_toNat (a8 : Byte) : (zeroPageAddr a8).toNat = a8.toNat := by
  have := a8.isLt
  simp only [zeroPageAddr, zext24, Config.zeroPageBase, BitVec.toNat_add, BitVec.toNat_setWidth, BitVec.toNat_ofNat]
  omega

/-- Everything a load does. -/
theorem State.load8_spec (r : Reg8) (ea : Addr) (L : Nat) :
    (s.load8 r ea L).reg8 r = s.memRead ea ∧
    (∀ q, q ≠ r → (s.load8 r ea L).reg8 q = s.reg8 q) ∧
    (∀ q, (s.load8 r ea L).reg24 q = s.reg24 q) ∧
    (s.load8 r ea L).F = s.F.withResult (s.memRead ea) ∧
    (s.load8 r ea L).P = s.nextAddr L ∧
    (s.load8 r ea L).T = s.T ∧
    (s.load8 r ea L).mem = s.mem ∧
    (s.load8 r ea L).run = s.run ∧
    (s.load8 r ea L).stackBase = s.stackBase := by
  cases r <;> simp +contextual [State.load8, State.setReg8_other]

/-- Everything SETA, SETB, SETC does. -/
theorem State.set8_spec (r : Reg8) (v : Byte) (L : Nat) :
    (s.set8 r v L).reg8 r = v ∧
    (∀ q, q ≠ r → (s.set8 r v L).reg8 q = s.reg8 q) ∧
    (∀ q, (s.set8 r v L).reg24 q = s.reg24 q) ∧
    (s.set8 r v L).F = s.F ∧
    (s.set8 r v L).P = s.nextAddr L ∧
    (s.set8 r v L).T = s.T ∧
    (s.set8 r v L).mem = s.mem ∧
    (s.set8 r v L).run = s.run ∧
    (s.set8 r v L).stackBase = s.stackBase := by
  cases r <;> simp +contextual [State.set8, State.setReg8_other]

/-- Everything SETS, SETD does. -/
theorem State.set24_spec (r : Reg24) (v : Addr) (L : Nat) :
    (s.set24 r v L).reg24 r = v ∧
    (∀ q, q ≠ r → (s.set24 r v L).reg24 q = s.reg24 q) ∧
    (∀ q, (s.set24 r v L).reg8 q = s.reg8 q) ∧
    (s.set24 r v L).F = s.F ∧
    (s.set24 r v L).P = s.nextAddr L ∧
    (s.set24 r v L).T = s.T ∧
    (s.set24 r v L).mem = s.mem ∧
    (s.set24 r v L).run = s.run ∧
    (s.set24 r v L).stackBase = s.stackBase := by
  cases r <;> simp +contextual [State.set24, State.setReg24_other]

/-- Everything a store does. -/
theorem State.store8_spec (r : Reg8) (ea : Addr) (L : Nat) :
    (∀ q, (s.store8 r ea L).reg8 q = s.reg8 q) ∧
    (∀ q, (s.store8 r ea L).reg24 q = s.reg24 q) ∧
    (s.store8 r ea L).F = s.F ∧
    (s.store8 r ea L).P = s.nextAddr L ∧
    (s.store8 r ea L).T = s.T ∧
    (s.store8 r ea L).mem = Memory.insert s.mem ea.toNat (s.reg8 r) ∧
    (s.store8 r ea L).run = s.run ∧
    (s.store8 r ea L).stackBase = s.stackBase := by
  simp [State.store8]

/-- Everything an increment does. -/
theorem State.inc8_spec (r : Reg8) :
    (s.inc8 r).reg8 r = s.reg8 r + 1 ∧
    (∀ q, q ≠ r → (s.inc8 r).reg8 q = s.reg8 q) ∧
    (∀ q, (s.inc8 r).reg24 q = s.reg24 q) ∧
    (s.inc8 r).F = s.F.withInc (s.reg8 r) ∧
    (s.inc8 r).P = s.nextAddr 1 ∧
    (s.inc8 r).T = s.T ∧
    (s.inc8 r).mem = s.mem ∧
    (s.inc8 r).run = s.run ∧
    (s.inc8 r).stackBase = s.stackBase := by
  cases r <;> simp +contextual [State.inc8, State.setReg8_other]

/-- Everything an increment does. -/
theorem State.inc24_spec (r : Reg24) :
    (s.inc24 r).reg24 r = s.reg24 r + 1 ∧
    (∀ q, q ≠ r → (s.inc24 r).reg24 q = s.reg24 q) ∧
    (∀ q, (s.inc24 r).reg8 q = s.reg8 q) ∧
    (s.inc24 r).F = s.F.withInc (s.reg24 r) ∧
    (s.inc24 r).P = s.nextAddr 1 ∧
    (s.inc24 r).T = s.T ∧
    (s.inc24 r).mem = s.mem ∧
    (s.inc24 r).run = s.run ∧
    (s.inc24 r).stackBase = s.stackBase := by
  cases r <;> simp +contextual [State.inc24, State.setReg24_other]

/-- Everything a decrement does. -/
theorem State.dec8_spec (r : Reg8) :
    (s.dec8 r).reg8 r = s.reg8 r - 1 ∧
    (∀ q, q ≠ r → (s.dec8 r).reg8 q = s.reg8 q) ∧
    (∀ q, (s.dec8 r).reg24 q = s.reg24 q) ∧
    (s.dec8 r).F = s.F.withDec (s.reg8 r) ∧
    (s.dec8 r).P = s.nextAddr 1 ∧
    (s.dec8 r).T = s.T ∧
    (s.dec8 r).mem = s.mem ∧
    (s.dec8 r).run = s.run ∧
    (s.dec8 r).stackBase = s.stackBase := by
  cases r <;> simp +contextual [State.dec8, State.setReg8_other]

/-- Everything a decrement does. -/
theorem State.dec24_spec (r : Reg24) :
    (s.dec24 r).reg24 r = s.reg24 r - 1 ∧
    (∀ q, q ≠ r → (s.dec24 r).reg24 q = s.reg24 q) ∧
    (∀ q, (s.dec24 r).reg8 q = s.reg8 q) ∧
    (s.dec24 r).F = s.F.withDec (s.reg24 r) ∧
    (s.dec24 r).P = s.nextAddr 1 ∧
    (s.dec24 r).T = s.T ∧
    (s.dec24 r).mem = s.mem ∧
    (s.dec24 r).run = s.run ∧
    (s.dec24 r).stackBase = s.stackBase := by
  cases r <;> simp +contextual [State.dec24, State.setReg24_other]

/-- Everything an addition does. -/
theorem State.add8_spec (r : Reg8) (v : Byte) (L : Nat) :
    (s.add8 r v L).reg8 r = s.reg8 r + v ∧
    (∀ q, q ≠ r → (s.add8 r v L).reg8 q = s.reg8 q) ∧
    (∀ q, (s.add8 r v L).reg24 q = s.reg24 q) ∧
    (s.add8 r v L).F = s.F.withAdd (s.reg8 r) v ∧
    (s.add8 r v L).P = s.nextAddr L ∧
    (s.add8 r v L).T = s.T ∧
    (s.add8 r v L).mem = s.mem ∧
    (s.add8 r v L).run = s.run ∧
    (s.add8 r v L).stackBase = s.stackBase := by
  cases r <;> simp +contextual [State.add8, State.setReg8_other]

/-- Everything an addition does. -/
theorem State.add24_spec (r : Reg24) (v : Addr) (L : Nat) :
    (s.add24 r v L).reg24 r = s.reg24 r + v ∧
    (∀ q, q ≠ r → (s.add24 r v L).reg24 q = s.reg24 q) ∧
    (∀ q, (s.add24 r v L).reg8 q = s.reg8 q) ∧
    (s.add24 r v L).F = s.F.withAdd (s.reg24 r) v ∧
    (s.add24 r v L).P = s.nextAddr L ∧
    (s.add24 r v L).T = s.T ∧
    (s.add24 r v L).mem = s.mem ∧
    (s.add24 r v L).run = s.run ∧
    (s.add24 r v L).stackBase = s.stackBase := by
  cases r <;> simp +contextual [State.add24, State.setReg24_other]

/-- Everything a subtraction does. -/
theorem State.sub8_spec (r : Reg8) (v : Byte) (L : Nat) :
    (s.sub8 r v L).reg8 r = s.reg8 r - v ∧
    (∀ q, q ≠ r → (s.sub8 r v L).reg8 q = s.reg8 q) ∧
    (∀ q, (s.sub8 r v L).reg24 q = s.reg24 q) ∧
    (s.sub8 r v L).F = s.F.withSub (s.reg8 r) v ∧
    (s.sub8 r v L).P = s.nextAddr L ∧
    (s.sub8 r v L).T = s.T ∧
    (s.sub8 r v L).mem = s.mem ∧
    (s.sub8 r v L).run = s.run ∧
    (s.sub8 r v L).stackBase = s.stackBase := by
  cases r <;> simp +contextual [State.sub8, State.setReg8_other]

/-- Everything a subtraction does. -/
theorem State.sub24_spec (r : Reg24) (v : Addr) (L : Nat) :
    (s.sub24 r v L).reg24 r = s.reg24 r - v ∧
    (∀ q, q ≠ r → (s.sub24 r v L).reg24 q = s.reg24 q) ∧
    (∀ q, (s.sub24 r v L).reg8 q = s.reg8 q) ∧
    (s.sub24 r v L).F = s.F.withSub (s.reg24 r) v ∧
    (s.sub24 r v L).P = s.nextAddr L ∧
    (s.sub24 r v L).T = s.T ∧
    (s.sub24 r v L).mem = s.mem ∧
    (s.sub24 r v L).run = s.run ∧
    (s.sub24 r v L).stackBase = s.stackBase := by
  cases r <;> simp +contextual [State.sub24, State.setReg24_other]

/-- Everything a bit test does. -/
theorem State.tst8_spec (r : Reg8) (ib : Nat) :
    (∀ q, (s.tst8 r ib).reg8 q = s.reg8 q) ∧
    (∀ q, (s.tst8 r ib).reg24 q = s.reg24 q) ∧
    (s.tst8 r ib).F = s.F.withTst (s.reg8 r) ib ∧
    (s.tst8 r ib).P = s.nextAddr 1 ∧
    (s.tst8 r ib).T = s.T ∧
    (s.tst8 r ib).mem = s.mem ∧
    (s.tst8 r ib).run = s.run ∧
    (s.tst8 r ib).stackBase = s.stackBase := by
  simp [State.tst8]

/-- Everything a logic instruction does. -/
theorem State.result8_spec (r : Reg8) (res : Byte) (L : Nat) :
    (s.result8 r res L).reg8 r = res ∧
    (∀ q, q ≠ r → (s.result8 r res L).reg8 q = s.reg8 q) ∧
    (∀ q, (s.result8 r res L).reg24 q = s.reg24 q) ∧
    (s.result8 r res L).F = s.F.withResult res ∧
    (s.result8 r res L).P = s.nextAddr L ∧
    (s.result8 r res L).T = s.T ∧
    (s.result8 r res L).mem = s.mem ∧
    (s.result8 r res L).run = s.run ∧
    (s.result8 r res L).stackBase = s.stackBase := by
  cases r <;> simp +contextual [State.result8, State.setReg8_other]

/-- Everything a left shift does. -/
theorem State.shl8_spec (r : Reg8) (n : Nat) :
    (s.shl8 r n).reg8 r = s.reg8 r <<< n ∧
    (∀ q, q ≠ r → (s.shl8 r n).reg8 q = s.reg8 q) ∧
    (∀ q, (s.shl8 r n).reg24 q = s.reg24 q) ∧
    (s.shl8 r n).F = s.F ∧
    (s.shl8 r n).P = s.nextAddr 1 ∧
    (s.shl8 r n).T = s.T ∧
    (s.shl8 r n).mem = s.mem ∧
    (s.shl8 r n).run = s.run ∧
    (s.shl8 r n).stackBase = s.stackBase := by
  cases r <;> simp +contextual [State.shl8, State.setReg8_other]

/-- Everything a right shift does. -/
theorem State.shr8_spec (r : Reg8) (n : Nat) :
    (s.shr8 r n).reg8 r = s.reg8 r >>> n ∧
    (∀ q, q ≠ r → (s.shr8 r n).reg8 q = s.reg8 q) ∧
    (∀ q, (s.shr8 r n).reg24 q = s.reg24 q) ∧
    (s.shr8 r n).F = s.F.withResult (s.reg8 r >>> n) ∧
    (s.shr8 r n).P = s.nextAddr 1 ∧
    (s.shr8 r n).T = s.T ∧
    (s.shr8 r n).mem = s.mem ∧
    (s.shr8 r n).run = s.run ∧
    (s.shr8 r n).stackBase = s.stackBase := by
  cases r <;> simp +contextual [State.shr8, State.setReg8_other, State.result8]

/-- Everything a compare does. -/
theorem State.cmp8_spec (r : Reg8) (v : Byte) (L : Nat) :
    (∀ q, (s.cmp8 r v L).reg8 q = s.reg8 q) ∧
    (∀ q, (s.cmp8 r v L).reg24 q = s.reg24 q) ∧
    (s.cmp8 r v L).F = s.F.withCmp (s.reg8 r) v ∧
    (s.cmp8 r v L).P = s.nextAddr L ∧
    (s.cmp8 r v L).T = s.T ∧
    (s.cmp8 r v L).mem = s.mem ∧
    (s.cmp8 r v L).run = s.run ∧
    (s.cmp8 r v L).stackBase = s.stackBase := by
  simp [State.cmp8]

/-- Everything a conditional jump does: only P changes. -/
theorem State.jumpIf_spec (c : Cond) (target : Addr) (L : Nat) :
    s.jumpIf c target L = s.setP (if c.holds s.F then target else s.nextAddr L) := by
  unfold State.jumpIf State.advance
  split <;> rfl

/-- Everything a push of one byte does. -/
theorem State.pushByte_spec (v : Byte) (L : Nat) :
    (∀ q, (s.pushByte v L).reg8 q = s.reg8 q) ∧
    (∀ q, (s.pushByte v L).reg24 q = s.reg24 q) ∧
    (s.pushByte v L).F = s.F ∧
    (s.pushByte v L).P = s.nextAddr L ∧
    (s.pushByte v L).T = s.T + 1#12 ∧
    (s.pushByte v L).mem = Memory.insert s.mem (s.stackAddr s.T).toNat v ∧
    (s.pushByte v L).run = s.run ∧
    (s.pushByte v L).stackBase = s.stackBase := by
  simp [State.pushByte, State.push8]

/-- Everything a push of three bytes does. -/
theorem State.pushWord_spec (w : Addr) :
    (∀ q, (s.pushWord w).reg8 q = s.reg8 q) ∧
    (∀ q, (s.pushWord w).reg24 q = s.reg24 q) ∧
    (s.pushWord w).F = s.F ∧
    (s.pushWord w).P = s.nextAddr 1 ∧
    (s.pushWord w).T = s.T + 3#12 ∧
    (s.pushWord w).mem = (s.push24 w).mem ∧
    (s.pushWord w).run = s.run ∧
    (s.pushWord w).stackBase = s.stackBase := by
  simp [State.pushWord]

/-- Everything a pop into A, B or C does. -/
theorem State.popReg8_spec (r : Reg8) :
    (s.popReg8 r).reg8 r = s.memRead (s.stackAddr (s.T - 1#12)) ∧
    (∀ q, q ≠ r → (s.popReg8 r).reg8 q = s.reg8 q) ∧
    (∀ q, (s.popReg8 r).reg24 q = s.reg24 q) ∧
    (s.popReg8 r).F = s.F ∧
    (s.popReg8 r).P = s.nextAddr 1 ∧
    (s.popReg8 r).T = s.T - 1#12 ∧
    (s.popReg8 r).mem = s.mem ∧
    (s.popReg8 r).run = s.run ∧
    (s.popReg8 r).stackBase = s.stackBase := by
  cases r <;> simp +contextual [State.popReg8, State.setReg8_other]

/-- Everything a pop into S or D does. -/
theorem State.popReg24_spec (r : Reg24) :
    (s.popReg24 r).reg24 r = s.pop24.1 ∧
    (∀ q, q ≠ r → (s.popReg24 r).reg24 q = s.reg24 q) ∧
    (∀ q, (s.popReg24 r).reg8 q = s.reg8 q) ∧
    (s.popReg24 r).F = s.F ∧
    (s.popReg24 r).P = s.nextAddr 1 ∧
    (s.popReg24 r).T = s.T - 3#12 ∧
    (s.popReg24 r).mem = s.mem ∧
    (s.popReg24 r).run = s.run ∧
    (s.popReg24 r).stackBase = s.stackBase := by
  cases r <;> simp +contextual [State.popReg24, State.setReg24_other]

/-- Everything `POP` does. -/
theorem State.popMem_spec :
    (∀ q, (s.popMem).reg8 q = s.reg8 q) ∧
    (∀ q, (s.popMem).reg24 q = s.reg24 q) ∧
    (s.popMem).F = s.F ∧
    (s.popMem).P = s.nextAddr 1 ∧
    (s.popMem).T = s.T - 1#12 ∧
    (s.popMem).mem = Memory.insert s.mem s.D.toNat (s.memRead (s.stackAddr (s.T - 1#12))) ∧
    (s.popMem).run = s.run ∧
    (s.popMem).stackBase = s.stackBase := by
  simp [State.popMem, State.destAddr]

end Sys2Proof.Machine
end

