-- ==== Sys2Proof/Laws/PerInstr.lean ====
section
/-! SUPPORT. The family EncodedLength: every instruction term encodes to one to four bytes (`30_encoding.md` R70). -/

namespace Sys2Proof.Laws

/-- The encoding of the instruction is one to four bytes long. -/
def EncodedLength.Statement (i : Instr) : Prop := 1 ≤ (encode i).length ∧ (encode i).length ≤ 4

theorem EncodedLength.nop : EncodedLength.Statement .nop := ⟨by show 1 ≤ _; exact Nat.le_add_left 1 _, by show _ ≤ 4; exact Nat.le_of_ble_eq_true rfl⟩
theorem EncodedLength.lda : EncodedLength.Statement .lda := ⟨by show 1 ≤ _; exact Nat.le_add_left 1 _, by show _ ≤ 4; exact Nat.le_of_ble_eq_true rfl⟩
theorem EncodedLength.ldaA8 (a8 : Byte) : EncodedLength.Statement (.ldaA8 a8) := ⟨by show 1 ≤ _; exact Nat.le_add_left 1 _, by show _ ≤ 4; exact Nat.le_of_ble_eq_true rfl⟩
theorem EncodedLength.ldb : EncodedLength.Statement .ldb := ⟨by show 1 ≤ _; exact Nat.le_add_left 1 _, by show _ ≤ 4; exact Nat.le_of_ble_eq_true rfl⟩
theorem EncodedLength.ldbA8 (a8 : Byte) : EncodedLength.Statement (.ldbA8 a8) := ⟨by show 1 ≤ _; exact Nat.le_add_left 1 _, by show _ ≤ 4; exact Nat.le_of_ble_eq_true rfl⟩
theorem EncodedLength.ldc : EncodedLength.Statement .ldc := ⟨by show 1 ≤ _; exact Nat.le_add_left 1 _, by show _ ≤ 4; exact Nat.le_of_ble_eq_true rfl⟩
theorem EncodedLength.ldcA8 (a8 : Byte) : EncodedLength.Statement (.ldcA8 a8) := ⟨by show 1 ≤ _; exact Nat.le_add_left 1 _, by show _ ≤ 4; exact Nat.le_of_ble_eq_true rfl⟩
theorem EncodedLength.setaI8 (i8 : Byte) : EncodedLength.Statement (.setaI8 i8) := ⟨by show 1 ≤ _; exact Nat.le_add_left 1 _, by show _ ≤ 4; exact Nat.le_of_ble_eq_true rfl⟩
theorem EncodedLength.setaB : EncodedLength.Statement .setaB := ⟨by show 1 ≤ _; exact Nat.le_add_left 1 _, by show _ ≤ 4; exact Nat.le_of_ble_eq_true rfl⟩
theorem EncodedLength.setaC : EncodedLength.Statement .setaC := ⟨by show 1 ≤ _; exact Nat.le_add_left 1 _, by show _ ≤ 4; exact Nat.le_of_ble_eq_true rfl⟩
theorem EncodedLength.setbI8 (i8 : Byte) : EncodedLength.Statement (.setbI8 i8) := ⟨by show 1 ≤ _; exact Nat.le_add_left 1 _, by show _ ≤ 4; exact Nat.le_of_ble_eq_true rfl⟩
theorem EncodedLength.setbA : EncodedLength.Statement .setbA := ⟨by show 1 ≤ _; exact Nat.le_add_left 1 _, by show _ ≤ 4; exact Nat.le_of_ble_eq_true rfl⟩
theorem EncodedLength.setbC : EncodedLength.Statement .setbC := ⟨by show 1 ≤ _; exact Nat.le_add_left 1 _, by show _ ≤ 4; exact Nat.le_of_ble_eq_true rfl⟩
theorem EncodedLength.setcI8 (i8 : Byte) : EncodedLength.Statement (.setcI8 i8) := ⟨by show 1 ≤ _; exact Nat.le_add_left 1 _, by show _ ≤ 4; exact Nat.le_of_ble_eq_true rfl⟩
theorem EncodedLength.setcA : EncodedLength.Statement .setcA := ⟨by show 1 ≤ _; exact Nat.le_add_left 1 _, by show _ ≤ 4; exact Nat.le_of_ble_eq_true rfl⟩
theorem EncodedLength.setcB : EncodedLength.Statement .setcB := ⟨by show 1 ≤ _; exact Nat.le_add_left 1 _, by show _ ≤ 4; exact Nat.le_of_ble_eq_true rfl⟩
theorem EncodedLength.setsI24 (i24 : Addr) : EncodedLength.Statement (.setsI24 i24) := ⟨by show 1 ≤ _; exact Nat.le_add_left 1 _, by show _ ≤ 4; exact Nat.le_of_ble_eq_true rfl⟩
theorem EncodedLength.setsI16 (i16 : Word16) : EncodedLength.Statement (.setsI16 i16) := ⟨by show 1 ≤ _; exact Nat.le_add_left 1 _, by show _ ≤ 4; exact Nat.le_of_ble_eq_true rfl⟩
theorem EncodedLength.setsI8 (i8 : Byte) : EncodedLength.Statement (.setsI8 i8) := ⟨by show 1 ≤ _; exact Nat.le_add_left 1 _, by show _ ≤ 4; exact Nat.le_of_ble_eq_true rfl⟩
theorem EncodedLength.setdI24 (i24 : Addr) : EncodedLength.Statement (.setdI24 i24) := ⟨by show 1 ≤ _; exact Nat.le_add_left 1 _, by show _ ≤ 4; exact Nat.le_of_ble_eq_true rfl⟩
theorem EncodedLength.setdI16 (i16 : Word16) : EncodedLength.Statement (.setdI16 i16) := ⟨by show 1 ≤ _; exact Nat.le_add_left 1 _, by show _ ≤ 4; exact Nat.le_of_ble_eq_true rfl⟩
theorem EncodedLength.setdI8 (i8 : Byte) : EncodedLength.Statement (.setdI8 i8) := ⟨by show 1 ≤ _; exact Nat.le_add_left 1 _, by show _ ≤ 4; exact Nat.le_of_ble_eq_true rfl⟩
theorem EncodedLength.sta : EncodedLength.Statement .sta := ⟨by show 1 ≤ _; exact Nat.le_add_left 1 _, by show _ ≤ 4; exact Nat.le_of_ble_eq_true rfl⟩
theorem EncodedLength.staA8 (a8 : Byte) : EncodedLength.Statement (.staA8 a8) := ⟨by show 1 ≤ _; exact Nat.le_add_left 1 _, by show _ ≤ 4; exact Nat.le_of_ble_eq_true rfl⟩
theorem EncodedLength.stb : EncodedLength.Statement .stb := ⟨by show 1 ≤ _; exact Nat.le_add_left 1 _, by show _ ≤ 4; exact Nat.le_of_ble_eq_true rfl⟩
theorem EncodedLength.stbA8 (a8 : Byte) : EncodedLength.Statement (.stbA8 a8) := ⟨by show 1 ≤ _; exact Nat.le_add_left 1 _, by show _ ≤ 4; exact Nat.le_of_ble_eq_true rfl⟩
theorem EncodedLength.stc : EncodedLength.Statement .stc := ⟨by show 1 ≤ _; exact Nat.le_add_left 1 _, by show _ ≤ 4; exact Nat.le_of_ble_eq_true rfl⟩
theorem EncodedLength.stcA8 (a8 : Byte) : EncodedLength.Statement (.stcA8 a8) := ⟨by show 1 ≤ _; exact Nat.le_add_left 1 _, by show _ ≤ 4; exact Nat.le_of_ble_eq_true rfl⟩
theorem EncodedLength.inca : EncodedLength.Statement .inca := ⟨by show 1 ≤ _; exact Nat.le_add_left 1 _, by show _ ≤ 4; exact Nat.le_of_ble_eq_true rfl⟩
theorem EncodedLength.incb : EncodedLength.Statement .incb := ⟨by show 1 ≤ _; exact Nat.le_add_left 1 _, by show _ ≤ 4; exact Nat.le_of_ble_eq_true rfl⟩
theorem EncodedLength.incc : EncodedLength.Statement .incc := ⟨by show 1 ≤ _; exact Nat.le_add_left 1 _, by show _ ≤ 4; exact Nat.le_of_ble_eq_true rfl⟩
theorem EncodedLength.incs : EncodedLength.Statement .incs := ⟨by show 1 ≤ _; exact Nat.le_add_left 1 _, by show _ ≤ 4; exact Nat.le_of_ble_eq_true rfl⟩
theorem EncodedLength.incd : EncodedLength.Statement .incd := ⟨by show 1 ≤ _; exact Nat.le_add_left 1 _, by show _ ≤ 4; exact Nat.le_of_ble_eq_true rfl⟩
theorem EncodedLength.deca : EncodedLength.Statement .deca := ⟨by show 1 ≤ _; exact Nat.le_add_left 1 _, by show _ ≤ 4; exact Nat.le_of_ble_eq_true rfl⟩
theorem EncodedLength.decb : EncodedLength.Statement .decb := ⟨by show 1 ≤ _; exact Nat.le_add_left 1 _, by show _ ≤ 4; exact Nat.le_of_ble_eq_true rfl⟩
theorem EncodedLength.decc : EncodedLength.Statement .decc := ⟨by show 1 ≤ _; exact Nat.le_add_left 1 _, by show _ ≤ 4; exact Nat.le_of_ble_eq_true rfl⟩
theorem EncodedLength.decs : EncodedLength.Statement .decs := ⟨by show 1 ≤ _; exact Nat.le_add_left 1 _, by show _ ≤ 4; exact Nat.le_of_ble_eq_true rfl⟩
theorem EncodedLength.decd : EncodedLength.Statement .decd := ⟨by show 1 ≤ _; exact Nat.le_add_left 1 _, by show _ ≤ 4; exact Nat.le_of_ble_eq_true rfl⟩
theorem EncodedLength.addaI8 (i8 : Byte) : EncodedLength.Statement (.addaI8 i8) := ⟨by show 1 ≤ _; exact Nat.le_add_left 1 _, by show _ ≤ 4; exact Nat.le_of_ble_eq_true rfl⟩
theorem EncodedLength.addaB : EncodedLength.Statement .addaB := ⟨by show 1 ≤ _; exact Nat.le_add_left 1 _, by show _ ≤ 4; exact Nat.le_of_ble_eq_true rfl⟩
theorem EncodedLength.addaC : EncodedLength.Statement .addaC := ⟨by show 1 ≤ _; exact Nat.le_add_left 1 _, by show _ ≤ 4; exact Nat.le_of_ble_eq_true rfl⟩
theorem EncodedLength.addbI8 (i8 : Byte) : EncodedLength.Statement (.addbI8 i8) := ⟨by show 1 ≤ _; exact Nat.le_add_left 1 _, by show _ ≤ 4; exact Nat.le_of_ble_eq_true rfl⟩
theorem EncodedLength.addbA : EncodedLength.Statement .addbA := ⟨by show 1 ≤ _; exact Nat.le_add_left 1 _, by show _ ≤ 4; exact Nat.le_of_ble_eq_true rfl⟩
theorem EncodedLength.addbC : EncodedLength.Statement .addbC := ⟨by show 1 ≤ _; exact Nat.le_add_left 1 _, by show _ ≤ 4; exact Nat.le_of_ble_eq_true rfl⟩
theorem EncodedLength.addcI8 (i8 : Byte) : EncodedLength.Statement (.addcI8 i8) := ⟨by show 1 ≤ _; exact Nat.le_add_left 1 _, by show _ ≤ 4; exact Nat.le_of_ble_eq_true rfl⟩
theorem EncodedLength.addcA : EncodedLength.Statement .addcA := ⟨by show 1 ≤ _; exact Nat.le_add_left 1 _, by show _ ≤ 4; exact Nat.le_of_ble_eq_true rfl⟩
theorem EncodedLength.addcB : EncodedLength.Statement .addcB := ⟨by show 1 ≤ _; exact Nat.le_add_left 1 _, by show _ ≤ 4; exact Nat.le_of_ble_eq_true rfl⟩
theorem EncodedLength.addsI16 (i16 : Word16) : EncodedLength.Statement (.addsI16 i16) := ⟨by show 1 ≤ _; exact Nat.le_add_left 1 _, by show _ ≤ 4; exact Nat.le_of_ble_eq_true rfl⟩
theorem EncodedLength.addsI8 (i8 : Byte) : EncodedLength.Statement (.addsI8 i8) := ⟨by show 1 ≤ _; exact Nat.le_add_left 1 _, by show _ ≤ 4; exact Nat.le_of_ble_eq_true rfl⟩
theorem EncodedLength.addsA : EncodedLength.Statement .addsA := ⟨by show 1 ≤ _; exact Nat.le_add_left 1 _, by show _ ≤ 4; exact Nat.le_of_ble_eq_true rfl⟩
theorem EncodedLength.adddI16 (i16 : Word16) : EncodedLength.Statement (.adddI16 i16) := ⟨by show 1 ≤ _; exact Nat.le_add_left 1 _, by show _ ≤ 4; exact Nat.le_of_ble_eq_true rfl⟩
theorem EncodedLength.adddI8 (i8 : Byte) : EncodedLength.Statement (.adddI8 i8) := ⟨by show 1 ≤ _; exact Nat.le_add_left 1 _, by show _ ≤ 4; exact Nat.le_of_ble_eq_true rfl⟩
theorem EncodedLength.adddA : EncodedLength.Statement .adddA := ⟨by show 1 ≤ _; exact Nat.le_add_left 1 _, by show _ ≤ 4; exact Nat.le_of_ble_eq_true rfl⟩
theorem EncodedLength.subaI8 (i8 : Byte) : EncodedLength.Statement (.subaI8 i8) := ⟨by show 1 ≤ _; exact Nat.le_add_left 1 _, by show _ ≤ 4; exact Nat.le_of_ble_eq_true rfl⟩
theorem EncodedLength.subaB : EncodedLength.Statement .subaB := ⟨by show 1 ≤ _; exact Nat.le_add_left 1 _, by show _ ≤ 4; exact Nat.le_of_ble_eq_true rfl⟩
theorem EncodedLength.subaC : EncodedLength.Statement .subaC := ⟨by show 1 ≤ _; exact Nat.le_add_left 1 _, by show _ ≤ 4; exact Nat.le_of_ble_eq_true rfl⟩
theorem EncodedLength.subbI8 (i8 : Byte) : EncodedLength.Statement (.subbI8 i8) := ⟨by show 1 ≤ _; exact Nat.le_add_left 1 _, by show _ ≤ 4; exact Nat.le_of_ble_eq_true rfl⟩
theorem EncodedLength.subbA : EncodedLength.Statement .subbA := ⟨by show 1 ≤ _; exact Nat.le_add_left 1 _, by show _ ≤ 4; exact Nat.le_of_ble_eq_true rfl⟩
theorem EncodedLength.subbC : EncodedLength.Statement .subbC := ⟨by show 1 ≤ _; exact Nat.le_add_left 1 _, by show _ ≤ 4; exact Nat.le_of_ble_eq_true rfl⟩
theorem EncodedLength.subcI8 (i8 : Byte) : EncodedLength.Statement (.subcI8 i8) := ⟨by show 1 ≤ _; exact Nat.le_add_left 1 _, by show _ ≤ 4; exact Nat.le_of_ble_eq_true rfl⟩
theorem EncodedLength.subcA : EncodedLength.Statement .subcA := ⟨by show 1 ≤ _; exact Nat.le_add_left 1 _, by show _ ≤ 4; exact Nat.le_of_ble_eq_true rfl⟩
theorem EncodedLength.subcB : EncodedLength.Statement .subcB := ⟨by show 1 ≤ _; exact Nat.le_add_left 1 _, by show _ ≤ 4; exact Nat.le_of_ble_eq_true rfl⟩
theorem EncodedLength.subsI16 (i16 : Word16) : EncodedLength.Statement (.subsI16 i16) := ⟨by show 1 ≤ _; exact Nat.le_add_left 1 _, by show _ ≤ 4; exact Nat.le_of_ble_eq_true rfl⟩
theorem EncodedLength.subsI8 (i8 : Byte) : EncodedLength.Statement (.subsI8 i8) := ⟨by show 1 ≤ _; exact Nat.le_add_left 1 _, by show _ ≤ 4; exact Nat.le_of_ble_eq_true rfl⟩
theorem EncodedLength.subsA : EncodedLength.Statement .subsA := ⟨by show 1 ≤ _; exact Nat.le_add_left 1 _, by show _ ≤ 4; exact Nat.le_of_ble_eq_true rfl⟩
theorem EncodedLength.subdI16 (i16 : Word16) : EncodedLength.Statement (.subdI16 i16) := ⟨by show 1 ≤ _; exact Nat.le_add_left 1 _, by show _ ≤ 4; exact Nat.le_of_ble_eq_true rfl⟩
theorem EncodedLength.subdI8 (i8 : Byte) : EncodedLength.Statement (.subdI8 i8) := ⟨by show 1 ≤ _; exact Nat.le_add_left 1 _, by show _ ≤ 4; exact Nat.le_of_ble_eq_true rfl⟩
theorem EncodedLength.subdA : EncodedLength.Statement .subdA := ⟨by show 1 ≤ _; exact Nat.le_add_left 1 _, by show _ ≤ 4; exact Nat.le_of_ble_eq_true rfl⟩
theorem EncodedLength.tsta (ib : Nat) : EncodedLength.Statement (.tsta ib) := ⟨by show 1 ≤ _; exact Nat.le_add_left 1 _, by show _ ≤ 4; exact Nat.le_of_ble_eq_true rfl⟩
theorem EncodedLength.tstb (ib : Nat) : EncodedLength.Statement (.tstb ib) := ⟨by show 1 ≤ _; exact Nat.le_add_left 1 _, by show _ ≤ 4; exact Nat.le_of_ble_eq_true rfl⟩
theorem EncodedLength.tstc (ib : Nat) : EncodedLength.Statement (.tstc ib) := ⟨by show 1 ≤ _; exact Nat.le_add_left 1 _, by show _ ≤ 4; exact Nat.le_of_ble_eq_true rfl⟩
theorem EncodedLength.andaI8 (i8 : Byte) : EncodedLength.Statement (.andaI8 i8) := ⟨by show 1 ≤ _; exact Nat.le_add_left 1 _, by show _ ≤ 4; exact Nat.le_of_ble_eq_true rfl⟩
theorem EncodedLength.andaB : EncodedLength.Statement .andaB := ⟨by show 1 ≤ _; exact Nat.le_add_left 1 _, by show _ ≤ 4; exact Nat.le_of_ble_eq_true rfl⟩
theorem EncodedLength.andaC : EncodedLength.Statement .andaC := ⟨by show 1 ≤ _; exact Nat.le_add_left 1 _, by show _ ≤ 4; exact Nat.le_of_ble_eq_true rfl⟩
theorem EncodedLength.andbI8 (i8 : Byte) : EncodedLength.Statement (.andbI8 i8) := ⟨by show 1 ≤ _; exact Nat.le_add_left 1 _, by show _ ≤ 4; exact Nat.le_of_ble_eq_true rfl⟩
theorem EncodedLength.andbA : EncodedLength.Statement .andbA := ⟨by show 1 ≤ _; exact Nat.le_add_left 1 _, by show _ ≤ 4; exact Nat.le_of_ble_eq_true rfl⟩
theorem EncodedLength.andbC : EncodedLength.Statement .andbC := ⟨by show 1 ≤ _; exact Nat.le_add_left 1 _, by show _ ≤ 4; exact Nat.le_of_ble_eq_true rfl⟩
theorem EncodedLength.andcI8 (i8 : Byte) : EncodedLength.Statement (.andcI8 i8) := ⟨by show 1 ≤ _; exact Nat.le_add_left 1 _, by show _ ≤ 4; exact Nat.le_of_ble_eq_true rfl⟩
theorem EncodedLength.andcA : EncodedLength.Statement .andcA := ⟨by show 1 ≤ _; exact Nat.le_add_left 1 _, by show _ ≤ 4; exact Nat.le_of_ble_eq_true rfl⟩
theorem EncodedLength.andcB : EncodedLength.Statement .andcB := ⟨by show 1 ≤ _; exact Nat.le_add_left 1 _, by show _ ≤ 4; exact Nat.le_of_ble_eq_true rfl⟩
theorem EncodedLength.oraI8 (i8 : Byte) : EncodedLength.Statement (.oraI8 i8) := ⟨by show 1 ≤ _; exact Nat.le_add_left 1 _, by show _ ≤ 4; exact Nat.le_of_ble_eq_true rfl⟩
theorem EncodedLength.oraB : EncodedLength.Statement .oraB := ⟨by show 1 ≤ _; exact Nat.le_add_left 1 _, by show _ ≤ 4; exact Nat.le_of_ble_eq_true rfl⟩
theorem EncodedLength.oraC : EncodedLength.Statement .oraC := ⟨by show 1 ≤ _; exact Nat.le_add_left 1 _, by show _ ≤ 4; exact Nat.le_of_ble_eq_true rfl⟩
theorem EncodedLength.orbI8 (i8 : Byte) : EncodedLength.Statement (.orbI8 i8) := ⟨by show 1 ≤ _; exact Nat.le_add_left 1 _, by show _ ≤ 4; exact Nat.le_of_ble_eq_true rfl⟩
theorem EncodedLength.orbA : EncodedLength.Statement .orbA := ⟨by show 1 ≤ _; exact Nat.le_add_left 1 _, by show _ ≤ 4; exact Nat.le_of_ble_eq_true rfl⟩
theorem EncodedLength.orbC : EncodedLength.Statement .orbC := ⟨by show 1 ≤ _; exact Nat.le_add_left 1 _, by show _ ≤ 4; exact Nat.le_of_ble_eq_true rfl⟩
theorem EncodedLength.orcI8 (i8 : Byte) : EncodedLength.Statement (.orcI8 i8) := ⟨by show 1 ≤ _; exact Nat.le_add_left 1 _, by show _ ≤ 4; exact Nat.le_of_ble_eq_true rfl⟩
theorem EncodedLength.orcA : EncodedLength.Statement .orcA := ⟨by show 1 ≤ _; exact Nat.le_add_left 1 _, by show _ ≤ 4; exact Nat.le_of_ble_eq_true rfl⟩
theorem EncodedLength.orcB : EncodedLength.Statement .orcB := ⟨by show 1 ≤ _; exact Nat.le_add_left 1 _, by show _ ≤ 4; exact Nat.le_of_ble_eq_true rfl⟩
theorem EncodedLength.xoraI8 (i8 : Byte) : EncodedLength.Statement (.xoraI8 i8) := ⟨by show 1 ≤ _; exact Nat.le_add_left 1 _, by show _ ≤ 4; exact Nat.le_of_ble_eq_true rfl⟩
theorem EncodedLength.xoraB : EncodedLength.Statement .xoraB := ⟨by show 1 ≤ _; exact Nat.le_add_left 1 _, by show _ ≤ 4; exact Nat.le_of_ble_eq_true rfl⟩
theorem EncodedLength.xoraC : EncodedLength.Statement .xoraC := ⟨by show 1 ≤ _; exact Nat.le_add_left 1 _, by show _ ≤ 4; exact Nat.le_of_ble_eq_true rfl⟩
theorem EncodedLength.xorbI8 (i8 : Byte) : EncodedLength.Statement (.xorbI8 i8) := ⟨by show 1 ≤ _; exact Nat.le_add_left 1 _, by show _ ≤ 4; exact Nat.le_of_ble_eq_true rfl⟩
theorem EncodedLength.xorbA : EncodedLength.Statement .xorbA := ⟨by show 1 ≤ _; exact Nat.le_add_left 1 _, by show _ ≤ 4; exact Nat.le_of_ble_eq_true rfl⟩
theorem EncodedLength.xorbC : EncodedLength.Statement .xorbC := ⟨by show 1 ≤ _; exact Nat.le_add_left 1 _, by show _ ≤ 4; exact Nat.le_of_ble_eq_true rfl⟩
theorem EncodedLength.xorcI8 (i8 : Byte) : EncodedLength.Statement (.xorcI8 i8) := ⟨by show 1 ≤ _; exact Nat.le_add_left 1 _, by show _ ≤ 4; exact Nat.le_of_ble_eq_true rfl⟩
theorem EncodedLength.xorcA : EncodedLength.Statement .xorcA := ⟨by show 1 ≤ _; exact Nat.le_add_left 1 _, by show _ ≤ 4; exact Nat.le_of_ble_eq_true rfl⟩
theorem EncodedLength.xorcB : EncodedLength.Statement .xorcB := ⟨by show 1 ≤ _; exact Nat.le_add_left 1 _, by show _ ≤ 4; exact Nat.le_of_ble_eq_true rfl⟩
theorem EncodedLength.nota : EncodedLength.Statement .nota := ⟨by show 1 ≤ _; exact Nat.le_add_left 1 _, by show _ ≤ 4; exact Nat.le_of_ble_eq_true rfl⟩
theorem EncodedLength.notb : EncodedLength.Statement .notb := ⟨by show 1 ≤ _; exact Nat.le_add_left 1 _, by show _ ≤ 4; exact Nat.le_of_ble_eq_true rfl⟩
theorem EncodedLength.notc : EncodedLength.Statement .notc := ⟨by show 1 ≤ _; exact Nat.le_add_left 1 _, by show _ ≤ 4; exact Nat.le_of_ble_eq_true rfl⟩
theorem EncodedLength.shla (n : Nat) : EncodedLength.Statement (.shla n) := ⟨by show 1 ≤ _; exact Nat.le_add_left 1 _, by show _ ≤ 4; exact Nat.le_of_ble_eq_true rfl⟩
theorem EncodedLength.shlb (n : Nat) : EncodedLength.Statement (.shlb n) := ⟨by show 1 ≤ _; exact Nat.le_add_left 1 _, by show _ ≤ 4; exact Nat.le_of_ble_eq_true rfl⟩
theorem EncodedLength.shlc (n : Nat) : EncodedLength.Statement (.shlc n) := ⟨by show 1 ≤ _; exact Nat.le_add_left 1 _, by show _ ≤ 4; exact Nat.le_of_ble_eq_true rfl⟩
theorem EncodedLength.shra (n : Nat) : EncodedLength.Statement (.shra n) := ⟨by show 1 ≤ _; exact Nat.le_add_left 1 _, by show _ ≤ 4; exact Nat.le_of_ble_eq_true rfl⟩
theorem EncodedLength.shrb (n : Nat) : EncodedLength.Statement (.shrb n) := ⟨by show 1 ≤ _; exact Nat.le_add_left 1 _, by show _ ≤ 4; exact Nat.le_of_ble_eq_true rfl⟩
theorem EncodedLength.shrc (n : Nat) : EncodedLength.Statement (.shrc n) := ⟨by show 1 ≤ _; exact Nat.le_add_left 1 _, by show _ ≤ 4; exact Nat.le_of_ble_eq_true rfl⟩
theorem EncodedLength.cmpaI8 (i8 : Byte) : EncodedLength.Statement (.cmpaI8 i8) := ⟨by show 1 ≤ _; exact Nat.le_add_left 1 _, by show _ ≤ 4; exact Nat.le_of_ble_eq_true rfl⟩
theorem EncodedLength.cmpaB : EncodedLength.Statement .cmpaB := ⟨by show 1 ≤ _; exact Nat.le_add_left 1 _, by show _ ≤ 4; exact Nat.le_of_ble_eq_true rfl⟩
theorem EncodedLength.cmpaC : EncodedLength.Statement .cmpaC := ⟨by show 1 ≤ _; exact Nat.le_add_left 1 _, by show _ ≤ 4; exact Nat.le_of_ble_eq_true rfl⟩
theorem EncodedLength.cmpbI8 (i8 : Byte) : EncodedLength.Statement (.cmpbI8 i8) := ⟨by show 1 ≤ _; exact Nat.le_add_left 1 _, by show _ ≤ 4; exact Nat.le_of_ble_eq_true rfl⟩
theorem EncodedLength.cmpbC : EncodedLength.Statement .cmpbC := ⟨by show 1 ≤ _; exact Nat.le_add_left 1 _, by show _ ≤ 4; exact Nat.le_of_ble_eq_true rfl⟩
theorem EncodedLength.cmpcI8 (i8 : Byte) : EncodedLength.Statement (.cmpcI8 i8) := ⟨by show 1 ≤ _; exact Nat.le_add_left 1 _, by show _ ≤ 4; exact Nat.le_of_ble_eq_true rfl⟩
theorem EncodedLength.jmp (off : Byte) : EncodedLength.Statement (.jmp off) := ⟨by show 1 ≤ _; exact Nat.le_add_left 1 _, by show _ ≤ 4; exact Nat.le_of_ble_eq_true rfl⟩
theorem EncodedLength.jmpf (off : Word16) : EncodedLength.Statement (.jmpf off) := ⟨by show 1 ≤ _; exact Nat.le_add_left 1 _, by show _ ≤ 4; exact Nat.le_of_ble_eq_true rfl⟩
theorem EncodedLength.jmpa (a24 : Addr) : EncodedLength.Statement (.jmpa a24) := ⟨by show 1 ≤ _; exact Nat.le_add_left 1 _, by show _ ≤ 4; exact Nat.le_of_ble_eq_true rfl⟩
theorem EncodedLength.jz (off : Byte) : EncodedLength.Statement (.jz off) := ⟨by show 1 ≤ _; exact Nat.le_add_left 1 _, by show _ ≤ 4; exact Nat.le_of_ble_eq_true rfl⟩
theorem EncodedLength.jzf (off : Word16) : EncodedLength.Statement (.jzf off) := ⟨by show 1 ≤ _; exact Nat.le_add_left 1 _, by show _ ≤ 4; exact Nat.le_of_ble_eq_true rfl⟩
theorem EncodedLength.jza (a24 : Addr) : EncodedLength.Statement (.jza a24) := ⟨by show 1 ≤ _; exact Nat.le_add_left 1 _, by show _ ≤ 4; exact Nat.le_of_ble_eq_true rfl⟩
theorem EncodedLength.jnz (off : Byte) : EncodedLength.Statement (.jnz off) := ⟨by show 1 ≤ _; exact Nat.le_add_left 1 _, by show _ ≤ 4; exact Nat.le_of_ble_eq_true rfl⟩
theorem EncodedLength.jnzf (off : Word16) : EncodedLength.Statement (.jnzf off) := ⟨by show 1 ≤ _; exact Nat.le_add_left 1 _, by show _ ≤ 4; exact Nat.le_of_ble_eq_true rfl⟩
theorem EncodedLength.jnza (a24 : Addr) : EncodedLength.Statement (.jnza a24) := ⟨by show 1 ≤ _; exact Nat.le_add_left 1 _, by show _ ≤ 4; exact Nat.le_of_ble_eq_true rfl⟩
theorem EncodedLength.jc (off : Byte) : EncodedLength.Statement (.jc off) := ⟨by show 1 ≤ _; exact Nat.le_add_left 1 _, by show _ ≤ 4; exact Nat.le_of_ble_eq_true rfl⟩
theorem EncodedLength.jcf (off : Word16) : EncodedLength.Statement (.jcf off) := ⟨by show 1 ≤ _; exact Nat.le_add_left 1 _, by show _ ≤ 4; exact Nat.le_of_ble_eq_true rfl⟩
theorem EncodedLength.jca (a24 : Addr) : EncodedLength.Statement (.jca a24) := ⟨by show 1 ≤ _; exact Nat.le_add_left 1 _, by show _ ≤ 4; exact Nat.le_of_ble_eq_true rfl⟩
theorem EncodedLength.jnc (off : Byte) : EncodedLength.Statement (.jnc off) := ⟨by show 1 ≤ _; exact Nat.le_add_left 1 _, by show _ ≤ 4; exact Nat.le_of_ble_eq_true rfl⟩
theorem EncodedLength.jncf (off : Word16) : EncodedLength.Statement (.jncf off) := ⟨by show 1 ≤ _; exact Nat.le_add_left 1 _, by show _ ≤ 4; exact Nat.le_of_ble_eq_true rfl⟩
theorem EncodedLength.jnca (a24 : Addr) : EncodedLength.Statement (.jnca a24) := ⟨by show 1 ≤ _; exact Nat.le_add_left 1 _, by show _ ≤ 4; exact Nat.le_of_ble_eq_true rfl⟩
theorem EncodedLength.je (off : Byte) : EncodedLength.Statement (.je off) := ⟨by show 1 ≤ _; exact Nat.le_add_left 1 _, by show _ ≤ 4; exact Nat.le_of_ble_eq_true rfl⟩
theorem EncodedLength.jef (off : Word16) : EncodedLength.Statement (.jef off) := ⟨by show 1 ≤ _; exact Nat.le_add_left 1 _, by show _ ≤ 4; exact Nat.le_of_ble_eq_true rfl⟩
theorem EncodedLength.jea (a24 : Addr) : EncodedLength.Statement (.jea a24) := ⟨by show 1 ≤ _; exact Nat.le_add_left 1 _, by show _ ≤ 4; exact Nat.le_of_ble_eq_true rfl⟩
theorem EncodedLength.jne (off : Byte) : EncodedLength.Statement (.jne off) := ⟨by show 1 ≤ _; exact Nat.le_add_left 1 _, by show _ ≤ 4; exact Nat.le_of_ble_eq_true rfl⟩
theorem EncodedLength.jnef (off : Word16) : EncodedLength.Statement (.jnef off) := ⟨by show 1 ≤ _; exact Nat.le_add_left 1 _, by show _ ≤ 4; exact Nat.le_of_ble_eq_true rfl⟩
theorem EncodedLength.jnea (a24 : Addr) : EncodedLength.Statement (.jnea a24) := ⟨by show 1 ≤ _; exact Nat.le_add_left 1 _, by show _ ≤ 4; exact Nat.le_of_ble_eq_true rfl⟩
theorem EncodedLength.jg (off : Byte) : EncodedLength.Statement (.jg off) := ⟨by show 1 ≤ _; exact Nat.le_add_left 1 _, by show _ ≤ 4; exact Nat.le_of_ble_eq_true rfl⟩
theorem EncodedLength.jgf (off : Word16) : EncodedLength.Statement (.jgf off) := ⟨by show 1 ≤ _; exact Nat.le_add_left 1 _, by show _ ≤ 4; exact Nat.le_of_ble_eq_true rfl⟩
theorem EncodedLength.jga (a24 : Addr) : EncodedLength.Statement (.jga a24) := ⟨by show 1 ≤ _; exact Nat.le_add_left 1 _, by show _ ≤ 4; exact Nat.le_of_ble_eq_true rfl⟩
theorem EncodedLength.jl (off : Byte) : EncodedLength.Statement (.jl off) := ⟨by show 1 ≤ _; exact Nat.le_add_left 1 _, by show _ ≤ 4; exact Nat.le_of_ble_eq_true rfl⟩
theorem EncodedLength.jlf (off : Word16) : EncodedLength.Statement (.jlf off) := ⟨by show 1 ≤ _; exact Nat.le_add_left 1 _, by show _ ≤ 4; exact Nat.le_of_ble_eq_true rfl⟩
theorem EncodedLength.jla (a24 : Addr) : EncodedLength.Statement (.jla a24) := ⟨by show 1 ≤ _; exact Nat.le_add_left 1 _, by show _ ≤ 4; exact Nat.le_of_ble_eq_true rfl⟩
theorem EncodedLength.jsr (a24 : Addr) : EncodedLength.Statement (.jsr a24) := ⟨by show 1 ≤ _; exact Nat.le_add_left 1 _, by show _ ≤ 4; exact Nat.le_of_ble_eq_true rfl⟩
theorem EncodedLength.ret : EncodedLength.Statement .ret := ⟨by show 1 ≤ _; exact Nat.le_add_left 1 _, by show _ ≤ 4; exact Nat.le_of_ble_eq_true rfl⟩
theorem EncodedLength.pusha : EncodedLength.Statement .pusha := ⟨by show 1 ≤ _; exact Nat.le_add_left 1 _, by show _ ≤ 4; exact Nat.le_of_ble_eq_true rfl⟩
theorem EncodedLength.pushb : EncodedLength.Statement .pushb := ⟨by show 1 ≤ _; exact Nat.le_add_left 1 _, by show _ ≤ 4; exact Nat.le_of_ble_eq_true rfl⟩
theorem EncodedLength.pushc : EncodedLength.Statement .pushc := ⟨by show 1 ≤ _; exact Nat.le_add_left 1 _, by show _ ≤ 4; exact Nat.le_of_ble_eq_true rfl⟩
theorem EncodedLength.pushs : EncodedLength.Statement .pushs := ⟨by show 1 ≤ _; exact Nat.le_add_left 1 _, by show _ ≤ 4; exact Nat.le_of_ble_eq_true rfl⟩
theorem EncodedLength.pushd : EncodedLength.Statement .pushd := ⟨by show 1 ≤ _; exact Nat.le_add_left 1 _, by show _ ≤ 4; exact Nat.le_of_ble_eq_true rfl⟩
theorem EncodedLength.pushp : EncodedLength.Statement .pushp := ⟨by show 1 ≤ _; exact Nat.le_add_left 1 _, by show _ ≤ 4; exact Nat.le_of_ble_eq_true rfl⟩
theorem EncodedLength.push (i8 : Byte) : EncodedLength.Statement (.push i8) := ⟨by show 1 ≤ _; exact Nat.le_add_left 1 _, by show _ ≤ 4; exact Nat.le_of_ble_eq_true rfl⟩
theorem EncodedLength.popa : EncodedLength.Statement .popa := ⟨by show 1 ≤ _; exact Nat.le_add_left 1 _, by show _ ≤ 4; exact Nat.le_of_ble_eq_true rfl⟩
theorem EncodedLength.popb : EncodedLength.Statement .popb := ⟨by show 1 ≤ _; exact Nat.le_add_left 1 _, by show _ ≤ 4; exact Nat.le_of_ble_eq_true rfl⟩
theorem EncodedLength.popc : EncodedLength.Statement .popc := ⟨by show 1 ≤ _; exact Nat.le_add_left 1 _, by show _ ≤ 4; exact Nat.le_of_ble_eq_true rfl⟩
theorem EncodedLength.pops : EncodedLength.Statement .pops := ⟨by show 1 ≤ _; exact Nat.le_add_left 1 _, by show _ ≤ 4; exact Nat.le_of_ble_eq_true rfl⟩
theorem EncodedLength.popd : EncodedLength.Statement .popd := ⟨by show 1 ≤ _; exact Nat.le_add_left 1 _, by show _ ≤ 4; exact Nat.le_of_ble_eq_true rfl⟩
theorem EncodedLength.pop : EncodedLength.Statement .pop := ⟨by show 1 ≤ _; exact Nat.le_add_left 1 _, by show _ ≤ 4; exact Nat.le_of_ble_eq_true rfl⟩
theorem EncodedLength.clg : EncodedLength.Statement .clg := ⟨by show 1 ≤ _; exact Nat.le_add_left 1 _, by show _ ≤ 4; exact Nat.le_of_ble_eq_true rfl⟩
theorem EncodedLength.cle : EncodedLength.Statement .cle := ⟨by show 1 ≤ _; exact Nat.le_add_left 1 _, by show _ ≤ 4; exact Nat.le_of_ble_eq_true rfl⟩
theorem EncodedLength.clc : EncodedLength.Statement .clc := ⟨by show 1 ≤ _; exact Nat.le_add_left 1 _, by show _ ≤ 4; exact Nat.le_of_ble_eq_true rfl⟩
theorem EncodedLength.clz : EncodedLength.Statement .clz := ⟨by show 1 ≤ _; exact Nat.le_add_left 1 _, by show _ ≤ 4; exact Nat.le_of_ble_eq_true rfl⟩
theorem EncodedLength.clf : EncodedLength.Statement .clf := ⟨by show 1 ≤ _; exact Nat.le_add_left 1 _, by show _ ≤ 4; exact Nat.le_of_ble_eq_true rfl⟩
theorem EncodedLength.rst : EncodedLength.Statement .rst := ⟨by show 1 ≤ _; exact Nat.le_add_left 1 _, by show _ ≤ 4; exact Nat.le_of_ble_eq_true rfl⟩
theorem EncodedLength.htl : EncodedLength.Statement .htl := ⟨by show 1 ≤ _; exact Nat.le_add_left 1 _, by show _ ≤ 4; exact Nat.le_of_ble_eq_true rfl⟩
theorem EncodedLength.undefined (op : Byte) : EncodedLength.Statement (.undefined op) := ⟨by show 1 ≤ _; exact Nat.le_add_left 1 _, by show _ ≤ 4; exact Nat.le_of_ble_eq_true rfl⟩

end Sys2Proof.Laws
end

