-- ==== Sys2Proof/Laws/Words.lean ====
section
/-! SUPPORT. Operand bytes and the values they spell: joining and taking apart are inverse (`30_encoding.md` R72). -/

namespace Sys2Proof

theorem join16_toNat (b1 b2 : Byte) : (join16 b1 b2).toNat = b1.toNat * 256 + b2.toNat := by
  simp only [join16, BitVec.toNat_append]
  rw [← Nat.shiftLeft_add_eq_or_of_lt b2.isLt, Nat.shiftLeft_eq]

theorem join24_toNat (b1 b2 b3 : Byte) :
    (join24 b1 b2 b3).toNat = b1.toNat * 65536 + b2.toNat * 256 + b3.toNat := by
  have h := join16_toNat b1 b2
  simp only [join16] at h
  simp only [join24]
  rw [BitVec.toNat_append, h, ← Nat.shiftLeft_add_eq_or_of_lt b3.isLt, Nat.shiftLeft_eq]
  omega

theorem byteOf16_toNat (w : Word16) (k : Nat) : (byteOf16 w k).toNat = w.toNat / 2 ^ (8 * k) % 256 := by
  simp [byteOf16, BitVec.extractLsb'_toNat, Nat.shiftRight_eq_div_pow]

theorem byteOf24_toNat (w : Addr) (k : Nat) : (byteOf24 w k).toNat = w.toNat / 2 ^ (8 * k) % 256 := by
  simp [byteOf24, BitVec.extractLsb'_toNat, Nat.shiftRight_eq_div_pow]

@[simp] theorem byteOf16_join16_1 (b1 b2 : Byte) : byteOf16 (join16 b1 b2) 1 = b1 := by
  apply BitVec.eq_of_toNat_eq
  have := b1.isLt; have := b2.isLt
  simp only [byteOf16_toNat, join16_toNat]; omega

@[simp] theorem byteOf16_join16_0 (b1 b2 : Byte) : byteOf16 (join16 b1 b2) 0 = b2 := by
  apply BitVec.eq_of_toNat_eq
  have := b1.isLt; have := b2.isLt
  simp only [byteOf16_toNat, join16_toNat]; omega

@[simp] theorem byteOf24_join24_2 (b1 b2 b3 : Byte) : byteOf24 (join24 b1 b2 b3) 2 = b1 := by
  apply BitVec.eq_of_toNat_eq
  have := b1.isLt; have := b2.isLt; have := b3.isLt
  simp only [byteOf24_toNat, join24_toNat]; omega

@[simp] theorem byteOf24_join24_1 (b1 b2 b3 : Byte) : byteOf24 (join24 b1 b2 b3) 1 = b2 := by
  apply BitVec.eq_of_toNat_eq
  have := b1.isLt; have := b2.isLt; have := b3.isLt
  simp only [byteOf24_toNat, join24_toNat]; omega

@[simp] theorem byteOf24_join24_0 (b1 b2 b3 : Byte) : byteOf24 (join24 b1 b2 b3) 0 = b3 := by
  apply BitVec.eq_of_toNat_eq
  have := b1.isLt; have := b2.isLt; have := b3.isLt
  simp only [byteOf24_toNat, join24_toNat]; omega

@[simp] theorem join16_byteOf16 (w : Word16) : join16 (byteOf16 w 1) (byteOf16 w 0) = w := by
  apply BitVec.eq_of_toNat_eq
  have := w.isLt
  simp only [byteOf16_toNat, join16_toNat]; omega

@[simp] theorem join24_byteOf24 (w : Addr) : join24 (byteOf24 w 2) (byteOf24 w 1) (byteOf24 w 0) = w := by
  apply BitVec.eq_of_toNat_eq
  have := w.isLt
  simp only [byteOf24_toNat, join24_toNat]; omega

end Sys2Proof
end

