-- ==== Sys2Proof/Laws/Rows.lean ====
section
/-! SUPPORT. The opcode table: what every row selects is a well-formed form whose encoding is that row's (`30_encoding.md`
R71, R80). -/

namespace Sys2Proof

/-- The forms of a row are well formed and encode to the opcode byte and the operand bytes of the row's format. -/
def Row.Agrees (op : Byte) : Row → Prop
  | .implied i => i.wellFormed = true ∧ encode i = [op]
  | .one f => ∀ v, (f v).wellFormed = true ∧ encode (f v) = [op, v]
  | .two f => ∀ v, (f v).wellFormed = true ∧ encode (f v) = [op, byteOf16 v 1, byteOf16 v 0]
  | .three f => ∀ v, (f v).wellFormed = true ∧ encode (f v) = [op, byteOf24 v 2, byteOf24 v 1, byteOf24 v 0]

theorem opcodeRows_length : opcodeRows.length = 225 := by decide +kernel

theorem rowOf_undefined (op : Byte) (h : 0xE1 ≤ op.toNat) : rowOf op = .implied (.undefined op) := by
  rw [rowOf, List.getD_eq_default _ _ (opcodeRows_length ▸ h)]

theorem opcodeRows_agree (k : Nat) (h : k < 225) :
    (opcodeRows.getD k (.implied .nop)).Agrees (BitVec.ofNat 8 k) := by
  interval_cases k <;> first | exact ⟨rfl, rfl⟩ | exact fun _ => ⟨rfl, rfl⟩

/-- The row of every opcode byte agrees with the encoder. -/
theorem rowOf_agrees (op : Byte) : (rowOf op).Agrees op := by
  by_cases h : op.toNat < 225
  · have hk := opcodeRows_agree op.toNat h
    rw [BitVec.ofNat_toNat, BitVec.setWidth_eq] at hk
    rw [rowOf, List.getD_eq_getElem _ _ h]
    rwa [List.getD_eq_getElem _ _ h] at hk
  · rw [rowOf_undefined op (Nat.le_of_not_lt h)]
    exact ⟨decide_eq_true (Nat.le_of_not_lt h), rfl⟩

/-- The length of what a row selects: the opcode byte and the row's operand bytes (R70). -/
theorem encode_rowOf_length (op : Byte) (b : Nat → Byte) :
    (encode ((rowOf op).instr b)).length = (rowOf op).operandBytes + 1 := by
  have h := rowOf_agrees op
  cases hr : rowOf op <;> rw [hr] at h <;> simp only [Row.Agrees] at h <;>
    simp [Row.instr, Row.operandBytes, h]

end Sys2Proof
end

