-- ==== Sys2Proof/Laws/Step.lean ====
section
/-! SUPPORT. Everything a step can do, by run state (`30_encoding.md` R82, `60_exceptions.md` R321, R325), and what the
fetch helpers read. -/

namespace Sys2Proof.Machine

variable (s : State)

@[simp] theorem step_of_running (h : s.run = .running) : step s = exec s.fetch s := by simp [step, h]

@[simp] theorem step_of_halted (h : s.run = .halted) : step s = .next s := by simp [step, h]

@[simp] theorem step_of_faulted (op : Byte) (addr : Addr) (h : s.run = .faulted op addr) :
    step s = .fault (.illegalOpcode op addr) := by simp [step, h]

/-- Everything a step that answers a next state did. -/
theorem step_next (t : State) (h : step s = .next t) :
    (s.run = .running ∧ exec s.fetch s = .next t) ∨ (s.run = .halted ∧ t = s) := by
  unfold step at h
  split at h
  · exact .inl ⟨by assumption, h⟩
  · exact .inr ⟨by assumption, (Host.Outcome.next.inj h).symm⟩
  · cases h

/-- The four bytes from an address. -/
theorem State.bytesAt_four (a : Addr) :
    s.bytesAt 4 a = [s.memRead a, s.memRead (a + 1#24), s.memRead (a + 2#24), s.memRead (a + 3#24)] := by
  simp [State.bytesAt, BitVec.add_assoc]

@[simp] theorem State.nextAddr_zero : s.nextAddr 0 = s.P := by simp [State.nextAddr]

/-- Storing bytes changes memory and nothing else. -/
theorem State.storeBytes_frame (vs : List Byte) (a : Addr) :
    (s.storeBytes a vs).A = s.A ∧ (s.storeBytes a vs).B = s.B ∧ (s.storeBytes a vs).C = s.C ∧
    (s.storeBytes a vs).S = s.S ∧ (s.storeBytes a vs).D = s.D ∧ (s.storeBytes a vs).T = s.T ∧
    (s.storeBytes a vs).P = s.P ∧ (s.storeBytes a vs).F = s.F ∧ (s.storeBytes a vs).run = s.run ∧
    (s.storeBytes a vs).stackBase = s.stackBase := by
  induction vs generalizing a s with
  | nil => simp [State.storeBytes]
  | cons v vs ih => simpa [State.storeBytes] using ih (s.memWrite a v) (a + 1#24)

end Sys2Proof.Machine
end

