-- ==== Sys2Proof/Tests/Slice0.lean ====
section
/-! SUPPORT. The model's own tests. Expected results come from the spec: the checks on embedded operands, the words of
`30_encoding.md` and spec/opcode_table.json, the vectors `V1` to `V216` of `95_test_vectors.md`. Then, for each
statement that has hypotheses, a witness that meets them. -/

namespace Sys2Proof.Tests

open Sys2Proof.Machine Sys2Proof.Claims

/-! ### Small states -/

/-- The state with the listed bytes of memory. -/
def holding (s : State) (m : List (Addr × Byte)) : State :=
  m.foldl (fun s c => s.memWrite c.1 c.2) s

/-- The state with the bytes stored from P. -/
def placed (bytes : List Byte) (s : State) : State := s.storeBytes s.P bytes

/-- The state after one step of the state with the bytes stored from P; that state itself if the step stops. -/
def after (bytes : List Byte) (s : State) : State :=
  match step (placed bytes s) with
  | .next t => t
  | _ => placed bytes s

/-- The state after an instruction. -/
def result (i : Instr) (s : State) : State :=
  match exec i s with
  | .next t => t
  | _ => s

/-! ### WellFormed refuses what no encoding spells -/

theorem test_wf_bit_numbers :
    [Instr.tsta 8, .tstb 8, .tstc 8].map Instr.wellFormed = [false, false, false] := by decide

theorem test_wf_left_shift_counts :
    [Instr.shla 0, .shla 9, .shlb 0, .shlb 9, .shlc 0, .shlc 9].map Instr.wellFormed =
      [false, false, false, false, false, false] := by decide

theorem test_wf_right_shift_counts :
    [Instr.shra 0, .shra 9, .shrb 0, .shrb 9, .shrc 0, .shrc 9].map Instr.wellFormed =
      [false, false, false, false, false, false] := by decide

theorem test_wf_undefined_byte : Instr.wellFormed (.undefined 0xE0#8) = false := by decide

/-! ### Decoding: every form -/

/-- `$00` to `$1B`: every form's word, written out from its row of the opcode map and R72. -/
theorem test_decode_LoadSetStore :
    [
      [0b00000000#8], [0b00000001#8], [0b00000010#8, 0b10000001#8], [0b00000011#8], [0b00000100#8, 0b10000001#8],
      [0b00000101#8], [0b00000110#8, 0b10000001#8], [0b00000111#8, 0b10000001#8], [0b00001000#8], [0b00001001#8],
      [0b00001010#8, 0b10000001#8], [0b00001011#8], [0b00001100#8], [0b00001101#8, 0b10000001#8], [0b00001110#8],
      [0b00001111#8], [0b00010000#8, 0b10000001#8, 0b00101100#8, 0b01010111#8],
      [0b00010001#8, 0b10000001#8, 0b00101100#8], [0b00010010#8, 0b10000001#8],
      [0b00010011#8, 0b10000001#8, 0b00101100#8, 0b01010111#8], [0b00010100#8, 0b10000001#8, 0b00101100#8],
      [0b00010101#8, 0b10000001#8], [0b00010110#8], [0b00010111#8, 0b10000001#8], [0b00011000#8],
      [0b00011001#8, 0b10000001#8], [0b00011010#8], [0b00011011#8, 0b10000001#8]].map decodeHead =
    ([
      .nop, .lda, .ldaA8 0x81#8, .ldb, .ldbA8 0x81#8, .ldc, .ldcA8 0x81#8, .setaI8 0x81#8, .setaB, .setaC,
      .setbI8 0x81#8, .setbA, .setbC, .setcI8 0x81#8, .setcA, .setcB, .setsI24 0x812C57#24, .setsI16 0x812C#16,
      .setsI8 0x81#8, .setdI24 0x812C57#24, .setdI16 0x812C#16, .setdI8 0x81#8, .sta, .staA8 0x81#8, .stb,
      .stbA8 0x81#8, .stc, .stcA8 0x81#8] :
      List Instr).map some := by decide

/-- `$1C` to `$43`: every form's word, written out from its row of the opcode map and R72. -/
theorem test_decode_Arith :
    [
      [0b00011100#8], [0b00011101#8], [0b00011110#8], [0b00011111#8], [0b00100000#8], [0b00100001#8],
      [0b00100010#8], [0b00100011#8], [0b00100100#8], [0b00100101#8], [0b00100110#8, 0b10000001#8], [0b00100111#8],
      [0b00101000#8], [0b00101001#8, 0b10000001#8], [0b00101010#8], [0b00101011#8], [0b00101100#8, 0b10000001#8],
      [0b00101101#8], [0b00101110#8], [0b00101111#8, 0b10000001#8, 0b00101100#8], [0b00110000#8, 0b10000001#8],
      [0b00110001#8], [0b00110010#8, 0b10000001#8, 0b00101100#8], [0b00110011#8, 0b10000001#8], [0b00110100#8],
      [0b00110101#8, 0b10000001#8], [0b00110110#8], [0b00110111#8], [0b00111000#8, 0b10000001#8], [0b00111001#8],
      [0b00111010#8], [0b00111011#8, 0b10000001#8], [0b00111100#8], [0b00111101#8],
      [0b00111110#8, 0b10000001#8, 0b00101100#8], [0b00111111#8, 0b10000001#8], [0b01000000#8],
      [0b01000001#8, 0b10000001#8, 0b00101100#8], [0b01000010#8, 0b10000001#8], [0b01000011#8]].map decodeHead =
    ([
      .inca, .incb, .incc, .incs, .incd, .deca, .decb, .decc, .decs, .decd, .addaI8 0x81#8, .addaB, .addaC,
      .addbI8 0x81#8, .addbA, .addbC, .addcI8 0x81#8, .addcA, .addcB, .addsI16 0x812C#16, .addsI8 0x81#8, .addsA,
      .adddI16 0x812C#16, .adddI8 0x81#8, .adddA, .subaI8 0x81#8, .subaB, .subaC, .subbI8 0x81#8, .subbA, .subbC,
      .subcI8 0x81#8, .subcA, .subcB, .subsI16 0x812C#16, .subsI8 0x81#8, .subsA, .subdI16 0x812C#16,
      .subdI8 0x81#8, .subdA] :
      List Instr).map some := by decide

/-- `$44` to `$5B`: every form's word, written out from its row of the opcode map and R72. -/
theorem test_decode_BitTests :
    [
      [0b01000100#8], [0b01001011#8], [0b01001100#8], [0b01010011#8], [0b01010100#8], [0b01011011#8]].map decodeHead =
    ([
      .tsta 0, .tsta 7, .tstb 0, .tstb 7, .tstc 0, .tstc 7] :
      List Instr).map some := by decide

/-- `$5C` to `$79`: every form's word, written out from its row of the opcode map and R72. -/
theorem test_decode_Logic :
    [
      [0b01011100#8, 0b10000001#8], [0b01011101#8], [0b01011110#8], [0b01011111#8, 0b10000001#8], [0b01100000#8],
      [0b01100001#8], [0b01100010#8, 0b10000001#8], [0b01100011#8], [0b01100100#8], [0b01100101#8, 0b10000001#8],
      [0b01100110#8], [0b01100111#8], [0b01101000#8, 0b10000001#8], [0b01101001#8], [0b01101010#8],
      [0b01101011#8, 0b10000001#8], [0b01101100#8], [0b01101101#8], [0b01101110#8, 0b10000001#8], [0b01101111#8],
      [0b01110000#8], [0b01110001#8, 0b10000001#8], [0b01110010#8], [0b01110011#8], [0b01110100#8, 0b10000001#8],
      [0b01110101#8], [0b01110110#8], [0b01110111#8], [0b01111000#8], [0b01111001#8]].map decodeHead =
    ([
      .andaI8 0x81#8, .andaB, .andaC, .andbI8 0x81#8, .andbA, .andbC, .andcI8 0x81#8, .andcA, .andcB,
      .oraI8 0x81#8, .oraB, .oraC, .orbI8 0x81#8, .orbA, .orbC, .orcI8 0x81#8, .orcA, .orcB, .xoraI8 0x81#8,
      .xoraB, .xoraC, .xorbI8 0x81#8, .xorbA, .xorbC, .xorcI8 0x81#8, .xorcA, .xorcB, .nota, .notb, .notc] :
      List Instr).map some := by decide

/-- `$7A` to `$A9`: every form's word, written out from its row of the opcode map and R72. -/
theorem test_decode_Shifts :
    [
      [0b01111010#8], [0b10000001#8], [0b10000010#8], [0b10001001#8], [0b10001010#8], [0b10010001#8],
      [0b10010010#8], [0b10011001#8], [0b10011010#8], [0b10100001#8], [0b10100010#8], [0b10101001#8]].map decodeHead =
    ([
      .shla 1, .shla 8, .shlb 1, .shlb 8, .shlc 1, .shlc 8, .shra 1, .shra 8, .shrb 1, .shrb 8, .shrc 1, .shrc 8] :
      List Instr).map some := by decide

/-- `$AA` to `$CC`: every form's word, written out from its row of the opcode map and R72. -/
theorem test_decode_CompareJump :
    [
      [0b10101010#8, 0b10000001#8], [0b10101011#8], [0b10101100#8], [0b10101101#8, 0b10000001#8], [0b10101110#8],
      [0b10101111#8, 0b10000001#8], [0b10110000#8, 0b10000001#8], [0b10110001#8, 0b10000001#8, 0b00101100#8],
      [0b10110010#8, 0b10000001#8, 0b00101100#8, 0b01010111#8], [0b10110011#8, 0b10000001#8],
      [0b10110100#8, 0b10000001#8, 0b00101100#8], [0b10110101#8, 0b10000001#8, 0b00101100#8, 0b01010111#8],
      [0b10110110#8, 0b10000001#8], [0b10110111#8, 0b10000001#8, 0b00101100#8],
      [0b10111000#8, 0b10000001#8, 0b00101100#8, 0b01010111#8], [0b10111001#8, 0b10000001#8],
      [0b10111010#8, 0b10000001#8, 0b00101100#8], [0b10111011#8, 0b10000001#8, 0b00101100#8, 0b01010111#8],
      [0b10111100#8, 0b10000001#8], [0b10111101#8, 0b10000001#8, 0b00101100#8],
      [0b10111110#8, 0b10000001#8, 0b00101100#8, 0b01010111#8], [0b10111111#8, 0b10000001#8],
      [0b11000000#8, 0b10000001#8, 0b00101100#8], [0b11000001#8, 0b10000001#8, 0b00101100#8, 0b01010111#8],
      [0b11000010#8, 0b10000001#8], [0b11000011#8, 0b10000001#8, 0b00101100#8],
      [0b11000100#8, 0b10000001#8, 0b00101100#8, 0b01010111#8], [0b11000101#8, 0b10000001#8],
      [0b11000110#8, 0b10000001#8, 0b00101100#8], [0b11000111#8, 0b10000001#8, 0b00101100#8, 0b01010111#8],
      [0b11001000#8, 0b10000001#8], [0b11001001#8, 0b10000001#8, 0b00101100#8],
      [0b11001010#8, 0b10000001#8, 0b00101100#8, 0b01010111#8],
      [0b11001011#8, 0b10000001#8, 0b00101100#8, 0b01010111#8], [0b11001100#8]].map decodeHead =
    ([
      .cmpaI8 0x81#8, .cmpaB, .cmpaC, .cmpbI8 0x81#8, .cmpbC, .cmpcI8 0x81#8, .jmp 0x81#8, .jmpf 0x812C#16,
      .jmpa 0x812C57#24, .jz 0x81#8, .jzf 0x812C#16, .jza 0x812C57#24, .jnz 0x81#8, .jnzf 0x812C#16,
      .jnza 0x812C57#24, .jc 0x81#8, .jcf 0x812C#16, .jca 0x812C57#24, .jnc 0x81#8, .jncf 0x812C#16,
      .jnca 0x812C57#24, .je 0x81#8, .jef 0x812C#16, .jea 0x812C57#24, .jne 0x81#8, .jnef 0x812C#16,
      .jnea 0x812C57#24, .jg 0x81#8, .jgf 0x812C#16, .jga 0x812C57#24, .jl 0x81#8, .jlf 0x812C#16,
      .jla 0x812C57#24, .jsr 0x812C57#24, .ret] :
      List Instr).map some := by decide

/-- `$CD` to `$E0`: every form's word, written out from its row of the opcode map and R72. -/
theorem test_decode_StackFlagsSystem :
    [
      [0b11001101#8], [0b11001110#8], [0b11001111#8], [0b11010000#8], [0b11010001#8], [0b11010010#8],
      [0b11010011#8, 0b10000001#8], [0b11010100#8], [0b11010101#8], [0b11010110#8], [0b11010111#8], [0b11011000#8],
      [0b11011001#8], [0b11011010#8], [0b11011011#8], [0b11011100#8], [0b11011101#8], [0b11011110#8],
      [0b11011111#8], [0b11100000#8]].map decodeHead =
    ([
      .pusha, .pushb, .pushc, .pushs, .pushd, .pushp, .push 0x81#8, .popa, .popb, .popc, .pops, .popd, .pop, .clg,
      .cle, .clc, .clz, .clf, .rst, .htl] :
      List Instr).map some := by decide

/-- `$E1` to `$FF`: every form's word, written out from its row of the opcode map and R72. -/
theorem test_decode_Undefined :
    [
      [0b11100001#8], [0b11111111#8]].map decodeHead =
    ([
      .undefined 0xE1#8, .undefined 0xFF#8] :
      List Instr).map some := by decide

/-- A list of bytes that ends before the instruction does is refused by name. -/
theorem test_decode_short :
    decode [] = .error .noOpcode ∧ decode [0x10#8, 0x04#8, 0x12#8] = .error (.missingOperand 0x10#8) := by
  decide +kernel

/-- The bits of the opcode table's rows, numbered from the least significant bit of the first byte. -/
theorem test_decode_table_words :
    decodeTableWord 32 0x34120410 = some (.setsI24 0x041234#24) ∧ decodeTableWord 8 0x10 = some (.setsI24 0#24) ∧
      decodeTableWord 8 0xFFFFE0 = some .htl := by decide

/-! ### One step: the spec's vectors -/

theorem test_V1_nop :
    (fun t : State => (t.P, t.F.C, t.F.Z))
      (after [0x00#8] { State.reset with A := 0x12#8, F := ⟨false, false, false, true⟩ }) =
      (0x040001#24, false, true) := by decide

theorem test_V3_lda :
    (fun t : State => (t.A, t.P, t.F.C, t.F.Z))
      (after [0x01#8] (holding { State.reset with S := 0x001234#24, F := ⟨false, false, true, true⟩ }
        [(0x001234#24, 0x7F#8)])) =
      (0x7F#8, 0x040001#24, true, false) := by decide

theorem test_V4_ldb_ff :
    (fun t : State => (t.B, t.P, t.F.Z))
      (after [0x04#8, 0xFF#8] (holding State.reset
        [(0x0000FF#24, 0x80#8)])) =
      (0x80#8, 0x040002#24, false) := by decide

theorem test_V6_lda :
    (fun t : State => (t.A, t.P, t.F.Z))
      (after [0x01#8] (holding { State.reset with S := 0xFFFFFF#24 }
        [(0xFFFFFF#24, 0xA5#8)])) =
      (0xA5#8, 0x040001#24, false) := by decide

theorem test_V8_seta_00 :
    (fun t : State => (t.A, t.P, t.F.Z))
      (after [0x07#8, 0x00#8] { State.reset with F := ⟨false, false, false, false⟩ }) =
      (0x00#8, 0x040002#24, false) := by decide

theorem test_V9_seta_b :
    (fun t : State => (t.A, t.P))
      (after [0x08#8] { State.reset with B := 0x42#8 }) =
      (0x42#8, 0x040001#24) := by decide

theorem test_V13_setb_c :
    (fun t : State => (t.B, t.P))
      (after [0x0C#8] { State.reset with C := 0x02#8 }) =
      (0x02#8, 0x040001#24) := by decide

theorem test_V15_setc_a :
    (fun t : State => (t.C, t.P))
      (after [0x0E#8] { State.reset with A := 0x03#8 }) =
      (0x03#8, 0x040001#24) := by decide

theorem test_V17_sets_123456 :
    (fun t : State => (t.S, t.P))
      (after [0x10#8, 0x12#8, 0x34#8, 0x56#8] State.reset) =
      (0x123456#24, 0x040004#24) := by decide

theorem test_V18_sets_beef :
    (fun t : State => (t.S, t.P))
      (after [0x11#8, 0xBE#8, 0xEF#8] { State.reset with S := 0xFFFFFF#24 }) =
      (0x00BEEF#24, 0x040003#24) := by decide

theorem test_V19_sets_80 :
    (fun t : State => (t.S, t.P))
      (after [0x12#8, 0x80#8] { State.reset with S := 0xFFFFFF#24 }) =
      (0x000080#24, 0x040002#24) := by decide

theorem test_V21_setd_ffff :
    (fun t : State => (t.D, t.P))
      (after [0x14#8, 0xFF#8, 0xFF#8] { State.reset with D := 0xAB0000#24 }) =
      (0x00FFFF#24, 0x040003#24) := by decide

theorem test_V23_sta :
    (fun t : State => (t.P, t.memRead 0x00ABCD#24))
      (after [0x16#8] { State.reset with A := 0x5A#8, D := 0x00ABCD#24 }) =
      (0x040001#24, 0x5A#8) := by decide

theorem test_V25_stb :
    (fun t : State => (t.P, t.F.Z, t.memRead 0x000000#24))
      (after [0x18#8] { State.reset with B := 0x00#8, D := 0x000000#24, F := ⟨false, false, false, false⟩ }) =
      (0x040001#24, false, 0x00#8) := by decide

theorem test_V28_stc_00 :
    (fun t : State => (t.P, t.memRead 0x000000#24))
      (after [0x1B#8, 0x00#8] { State.reset with C := 0xC3#8 }) =
      (0x040002#24, 0xC3#8) := by decide

theorem test_V31_inca :
    (fun t : State => (t.A, t.P, t.F.C, t.F.Z))
      (after [0x1C#8] { State.reset with A := 0xFF#8, F := ⟨false, false, false, false⟩ }) =
      (0x00#8, 0x040001#24, true, false) := by decide

theorem test_V35_incs :
    (fun t : State => (t.S, t.P, t.F.C))
      (after [0x1F#8] { State.reset with S := 0xFFFFFF#24 }) =
      (0x000000#24, 0x040001#24, true) := by decide

theorem test_V36_incd :
    (fun t : State => (t.D, t.P, t.F.C))
      (after [0x20#8] { State.reset with D := 0xFFFFFF#24 }) =
      (0x000000#24, 0x040001#24, true) := by decide

theorem test_V38_deca :
    (fun t : State => (t.A, t.P, t.F.C, t.F.Z))
      (after [0x21#8] { State.reset with A := 0x01#8 }) =
      (0x00#8, 0x040001#24, false, true) := by decide

theorem test_V39_deca :
    (fun t : State => (t.A, t.P, t.F.C, t.F.Z))
      (after [0x21#8] { State.reset with A := 0x00#8 }) =
      (0xFF#8, 0x040001#24, true, false) := by decide

theorem test_V42_decs :
    (fun t : State => (t.S, t.P, t.F.C, t.F.Z))
      (after [0x24#8] { State.reset with S := 0x010000#24 }) =
      (0x00FFFF#24, 0x040001#24, false, false) := by decide

theorem test_V44_decd :
    (fun t : State => (t.D, t.P, t.F.C, t.F.Z))
      (after [0x25#8] { State.reset with D := 0x000000#24 }) =
      (0xFFFFFF#24, 0x040001#24, true, false) := by decide

theorem test_V45_adda_01 :
    (fun t : State => (t.A, t.P, t.F.C, t.F.Z))
      (after [0x26#8, 0x01#8] { State.reset with A := 0xFF#8, F := ⟨false, false, false, false⟩ }) =
      (0x00#8, 0x040002#24, true, false) := by decide

theorem test_V46_adda_00 :
    (fun t : State => (t.P, t.F.C))
      (after [0x26#8, 0x00#8] { State.reset with A := 0x00#8, F := ⟨false, false, true, false⟩ }) =
      (0x040002#24, false) := by decide

theorem test_V48_adda_c :
    (fun t : State => (t.A, t.P, t.F.C))
      (after [0x28#8] { State.reset with A := 0x80#8, C := 0x80#8 }) =
      (0x00#8, 0x040001#24, true) := by decide

theorem test_V53_addc_a :
    (fun t : State => (t.C, t.P, t.F.C))
      (after [0x2D#8] { State.reset with A := 0xFF#8, C := 0xFF#8 }) =
      (0xFE#8, 0x040001#24, true) := by decide

theorem test_V55_adds_ffff :
    (fun t : State => (t.S, t.P, t.F.C))
      (after [0x2F#8, 0xFF#8, 0xFF#8] { State.reset with S := 0x000001#24 }) =
      (0x010000#24, 0x040003#24, false) := by decide

theorem test_V57_adds_ff :
    (fun t : State => (t.S, t.P, t.F.C))
      (after [0x30#8, 0xFF#8] { State.reset with S := 0x0000FF#24 }) =
      (0x0001FE#24, 0x040002#24, false) := by decide

theorem test_V58_adds_a :
    (fun t : State => (t.S, t.P, t.F.C))
      (after [0x31#8] { State.reset with A := 0xFF#8, S := 0xFFFF01#24 }) =
      (0x000000#24, 0x040001#24, true) := by decide

theorem test_V60_addd_01 :
    (fun t : State => (t.D, t.P, t.F.C))
      (after [0x33#8, 0x01#8] { State.reset with D := 0xFFFFFE#24 }) =
      (0xFFFFFF#24, 0x040002#24, false) := by decide

theorem test_V62_suba_01 :
    (fun t : State => (t.A, t.P, t.F.C, t.F.Z))
      (after [0x35#8, 0x01#8] { State.reset with A := 0x00#8 }) =
      (0xFF#8, 0x040002#24, true, false) := by decide

theorem test_V63_suba_05 :
    (fun t : State => (t.A, t.P, t.F.C, t.F.Z))
      (after [0x35#8, 0x05#8] { State.reset with A := 0x05#8 }) =
      (0x00#8, 0x040002#24, false, true) := by decide

theorem test_V64_suba_b :
    (fun t : State => (t.A, t.P, t.F.C, t.F.Z))
      (after [0x36#8] { State.reset with A := 0x10#8, B := 0x20#8 }) =
      (0xF0#8, 0x040001#24, true, false) := by decide

theorem test_V69_subc_ff :
    (fun t : State => (t.C, t.P, t.F.C, t.F.Z))
      (after [0x3B#8, 0xFF#8] { State.reset with C := 0x00#8 }) =
      (0x01#8, 0x040002#24, true, false) := by decide

theorem test_V72_subs_0001 :
    (fun t : State => (t.S, t.P, t.F.C, t.F.Z))
      (after [0x3E#8, 0x00#8, 0x01#8] { State.reset with S := 0x000000#24 }) =
      (0xFFFFFF#24, 0x040003#24, true, false) := by decide

theorem test_V75_subs_a :
    (fun t : State => (t.S, t.P, t.F.C, t.F.Z))
      (after [0x40#8] { State.reset with A := 0x01#8, S := 0x000100#24 }) =
      (0x0000FF#24, 0x040001#24, false, false) := by decide

theorem test_V76_subd_0100 :
    (fun t : State => (t.D, t.P, t.F.C, t.F.Z))
      (after [0x41#8, 0x01#8, 0x00#8] { State.reset with D := 0x000100#24 }) =
      (0x000000#24, 0x040003#24, false, true) := by decide

theorem test_V77_subd_ff :
    (fun t : State => (t.D, t.P, t.F.C, t.F.Z))
      (after [0x42#8, 0xFF#8] { State.reset with D := 0x0000FE#24 }) =
      (0xFFFFFF#24, 0x040002#24, true, false) := by decide

theorem test_V79_tsta_0 :
    (fun t : State => (t.P, t.F.Z))
      (after [0x44#8] { State.reset with A := 0x01#8 }) =
      (0x040001#24, false) := by decide

theorem test_V81_tsta_7 :
    (fun t : State => (t.P, t.F.Z))
      (after [0x4B#8] { State.reset with A := 0x7F#8 }) =
      (0x040001#24, true) := by decide

theorem test_V83_tstb_3 :
    (fun t : State => (t.P, t.F.Z))
      (after [0x4F#8] { State.reset with B := 0x08#8 }) =
      (0x040001#24, false) := by decide

theorem test_V84_tstc_4 :
    (fun t : State => (t.P, t.F.Z))
      (after [0x58#8] { State.reset with C := 0xEF#8 }) =
      (0x040001#24, true) := by decide

theorem test_V85_anda_0f :
    (fun t : State => (t.A, t.P, t.F.Z))
      (after [0x5C#8, 0x0F#8] { State.reset with A := 0xF0#8 }) =
      (0x00#8, 0x040002#24, true) := by decide

theorem test_V87_anda_b :
    (fun t : State => (t.A, t.P, t.F.Z))
      (after [0x5D#8] { State.reset with A := 0xCC#8, B := 0xAA#8 }) =
      (0x88#8, 0x040001#24, false) := by decide

theorem test_V93_andc_a :
    (fun t : State => (t.C, t.P, t.F.Z))
      (after [0x63#8] { State.reset with A := 0xF0#8, C := 0x1F#8 }) =
      (0x10#8, 0x040001#24, false) := by decide

theorem test_V95_ora_00 :
    (fun t : State => (t.P, t.F.Z))
      (after [0x65#8, 0x00#8] { State.reset with A := 0x00#8 }) =
      (0x040002#24, true) := by decide

theorem test_V97_ora_b :
    (fun t : State => (t.A, t.P, t.F.Z))
      (after [0x66#8] { State.reset with A := 0x0F#8, B := 0xF0#8 }) =
      (0xFF#8, 0x040001#24, false) := by decide

theorem test_V103_orc_a :
    (fun t : State => (t.C, t.P, t.F.Z))
      (after [0x6C#8] { State.reset with A := 0x0C#8, C := 0x03#8 }) =
      (0x0F#8, 0x040001#24, false) := by decide

theorem test_V105_xora_ff :
    (fun t : State => (t.A, t.P, t.F.Z))
      (after [0x6E#8, 0xFF#8] { State.reset with A := 0xFF#8 }) =
      (0x00#8, 0x040002#24, true) := by decide

theorem test_V107_xora_b :
    (fun t : State => (t.A, t.P, t.F.Z))
      (after [0x6F#8] { State.reset with A := 0x5A#8, B := 0x5A#8 }) =
      (0x00#8, 0x040001#24, true) := by decide

theorem test_V113_xorc_a :
    (fun t : State => (t.C, t.P, t.F.Z))
      (after [0x75#8] { State.reset with A := 0xF0#8, C := 0xFF#8 }) =
      (0x0F#8, 0x040001#24, false) := by decide

theorem test_V115_nota :
    (fun t : State => (t.A, t.P, t.F.Z))
      (after [0x77#8] { State.reset with A := 0xFF#8 }) =
      (0x00#8, 0x040001#24, true) := by decide

theorem test_V117_notc :
    (fun t : State => (t.C, t.P, t.F.Z))
      (after [0x79#8] { State.reset with C := 0x55#8 }) =
      (0xAA#8, 0x040001#24, false) := by decide

theorem test_V118_shla_1 :
    (fun t : State => (t.A, t.P, t.F.C, t.F.Z))
      (after [0x7A#8] { State.reset with A := 0x81#8, F := ⟨false, false, false, true⟩ }) =
      (0x02#8, 0x040001#24, false, true) := by decide

theorem test_V119_shla_8 :
    (fun t : State => (t.A, t.P, t.F.Z))
      (after [0x81#8] { State.reset with A := 0xFF#8, F := ⟨false, false, false, false⟩ }) =
      (0x00#8, 0x040001#24, false) := by decide

theorem test_V120_shlb_4 :
    (fun t : State => (t.B, t.P))
      (after [0x85#8] { State.reset with B := 0x0F#8 }) =
      (0xF0#8, 0x040001#24) := by decide

theorem test_V121_shlc_7 :
    (fun t : State => (t.C, t.P))
      (after [0x90#8] { State.reset with C := 0x01#8 }) =
      (0x80#8, 0x040001#24) := by decide

theorem test_V122_shra_1 :
    (fun t : State => (t.A, t.P, t.F.C, t.F.Z))
      (after [0x92#8] { State.reset with A := 0x01#8, F := ⟨false, false, false, false⟩ }) =
      (0x00#8, 0x040001#24, false, true) := by decide

theorem test_V123_shra_8 :
    (fun t : State => (t.A, t.P, t.F.Z))
      (after [0x99#8] { State.reset with A := 0xFF#8 }) =
      (0x00#8, 0x040001#24, true) := by decide

theorem test_V124_shrb_4 :
    (fun t : State => (t.B, t.P, t.F.Z))
      (after [0x9D#8] { State.reset with B := 0xF0#8 }) =
      (0x0F#8, 0x040001#24, false) := by decide

theorem test_V125_shrc_7 :
    (fun t : State => (t.C, t.P, t.F.Z))
      (after [0xA8#8] { State.reset with C := 0x80#8 }) =
      (0x01#8, 0x040001#24, false) := by decide

theorem test_V126_shra_1 :
    (fun t : State => (t.A, t.P, t.F.Z))
      (after [0x92#8] { State.reset with A := 0x80#8 }) =
      (0x40#8, 0x040001#24, false) := by decide

theorem test_V127_cmpa_10 :
    (fun t : State => (t.P, t.F.G, t.F.E, t.F.C, t.F.Z))
      (after [0xAA#8, 0x10#8] { State.reset with A := 0x20#8, F := ⟨false, false, true, true⟩ }) =
      (0x040002#24, true, false, true, true) := by decide

theorem test_V128_cmpa_20 :
    (fun t : State => (t.P, t.F.G, t.F.E))
      (after [0xAA#8, 0x20#8] { State.reset with A := 0x20#8 }) =
      (0x040002#24, false, true) := by decide

theorem test_V129_cmpa_30 :
    (fun t : State => (t.P, t.F.G, t.F.E))
      (after [0xAA#8, 0x30#8] { State.reset with A := 0x20#8 }) =
      (0x040002#24, false, false) := by decide

theorem test_V130_cmpa_80 :
    (fun t : State => (t.P, t.F.G, t.F.E))
      (after [0xAA#8, 0x80#8] { State.reset with A := 0x7F#8 }) =
      (0x040002#24, false, false) := by decide

theorem test_V131_cmpa_7f :
    (fun t : State => (t.P, t.F.G, t.F.E))
      (after [0xAA#8, 0x7F#8] { State.reset with A := 0x80#8 }) =
      (0x040002#24, true, false) := by decide

theorem test_V133_cmpa_c :
    (fun t : State => (t.P, t.F.G, t.F.E))
      (after [0xAC#8] { State.reset with A := 0xFF#8, C := 0x00#8 }) =
      (0x040001#24, true, false) := by decide

theorem test_V135_cmpb_c :
    (fun t : State => (t.P, t.F.G, t.F.E))
      (after [0xAE#8] { State.reset with B := 0x09#8, C := 0x09#8 }) =
      (0x040001#24, false, true) := by decide

theorem test_V136_cmpc_00 :
    (fun t : State => (t.P, t.F.G, t.F.E))
      (after [0xAF#8, 0x00#8] { State.reset with C := 0x01#8 }) =
      (0x040002#24, true, false) := by decide

theorem test_V138_jmp_fe :
    (fun t : State => t.P)
      (after [0xB0#8, 0xFE#8] State.reset) =
      0x040000#24 := by decide

theorem test_V140_jmp_80 :
    (fun t : State => t.P)
      (after [0xB0#8, 0x80#8] State.reset) =
      0x03FF82#24 := by decide

theorem test_V142_jmp_7f :
    (fun t : State => t.P)
      (after [0xB0#8, 0x7F#8] { State.reset with P := 0xFFFFF0#24 }) =
      0x000071#24 := by decide

theorem test_V143_jmpf_0100 :
    (fun t : State => t.P)
      (after [0xB1#8, 0x01#8, 0x00#8] State.reset) =
      0x040103#24 := by decide

theorem test_V145_jmpf_8000 :
    (fun t : State => t.P)
      (after [0xB1#8, 0x80#8, 0x00#8] State.reset) =
      0x038003#24 := by decide

theorem test_V147_jmpa_123456 :
    (fun t : State => t.P)
      (after [0xB2#8, 0x12#8, 0x34#8, 0x56#8] State.reset) =
      0x123456#24 := by decide

theorem test_V148_jz_10 :
    (fun t : State => (t.P, t.F.Z))
      (after [0xB3#8, 0x10#8] { State.reset with F := ⟨false, false, false, true⟩ }) =
      (0x040012#24, true) := by decide

theorem test_V149_jz_10 :
    (fun t : State => (t.P, t.F.Z))
      (after [0xB3#8, 0x10#8] { State.reset with F := ⟨false, false, false, false⟩ }) =
      (0x040002#24, false) := by decide

theorem test_V150_jzf_0010 :
    (fun t : State => (t.P, t.F.Z))
      (after [0xB4#8, 0x00#8, 0x10#8] { State.reset with F := ⟨false, false, false, true⟩ }) =
      (0x040013#24, true) := by decide

theorem test_V154_jnzf_ff00 :
    (fun t : State => (t.P, t.F.Z))
      (after [0xB7#8, 0xFF#8, 0x00#8] { State.reset with F := ⟨false, false, false, false⟩ }) =
      (0x03FF03#24, false) := by decide

theorem test_V155_jnza_040000 :
    (fun t : State => (t.P, t.F.Z))
      (after [0xB8#8, 0x04#8, 0x00#8, 0x00#8] { State.reset with F := ⟨false, false, false, false⟩ }) =
      (0x040000#24, false) := by decide

theorem test_V156_jc_02 :
    (fun t : State => (t.P, t.F.C))
      (after [0xB9#8, 0x02#8] { State.reset with F := ⟨false, false, true, false⟩ }) =
      (0x040004#24, true) := by decide

theorem test_V159_jca_000000 :
    (fun t : State => (t.P, t.F.C))
      (after [0xBB#8, 0x00#8, 0x00#8, 0x00#8] { State.reset with F := ⟨false, false, true, false⟩ }) =
      (0x000000#24, true) := by decide

theorem test_V161_jnc_02 :
    (fun t : State => (t.P, t.F.C))
      (after [0xBC#8, 0x02#8] { State.reset with F := ⟨false, false, true, false⟩ }) =
      (0x040002#24, true) := by decide

theorem test_V162_jncf_0002 :
    (fun t : State => (t.P, t.F.C))
      (after [0xBD#8, 0x00#8, 0x02#8] { State.reset with F := ⟨false, false, false, false⟩ }) =
      (0x040005#24, false) := by decide

theorem test_V164_je_02 :
    (fun t : State => (t.P, t.F.E))
      (after [0xBF#8, 0x02#8] { State.reset with F := ⟨false, true, false, false⟩ }) =
      (0x040004#24, true) := by decide

theorem test_V165_je_02 :
    (fun t : State => (t.P, t.F.E))
      (after [0xBF#8, 0x02#8] { State.reset with F := ⟨false, false, false, false⟩ }) =
      (0x040002#24, false) := by decide

theorem test_V167_jea_041000 :
    (fun t : State => (t.P, t.F.E))
      (after [0xC1#8, 0x04#8, 0x10#8, 0x00#8] { State.reset with F := ⟨false, false, false, false⟩ }) =
      (0x040004#24, false) := by decide

theorem test_V169_jne_02 :
    (fun t : State => (t.P, t.F.E))
      (after [0xC2#8, 0x02#8] { State.reset with F := ⟨false, true, false, false⟩ }) =
      (0x040002#24, true) := by decide

theorem test_V171_jnea_041000 :
    (fun t : State => (t.P, t.F.E))
      (after [0xC4#8, 0x04#8, 0x10#8, 0x00#8] { State.reset with F := ⟨false, false, false, false⟩ }) =
      (0x041000#24, false) := by decide

theorem test_V172_jg_02 :
    (fun t : State => (t.P, t.F.G))
      (after [0xC5#8, 0x02#8] { State.reset with F := ⟨true, false, false, false⟩ }) =
      (0x040004#24, true) := by decide

theorem test_V175_jga_041000 :
    (fun t : State => (t.P, t.F.G))
      (after [0xC7#8, 0x04#8, 0x10#8, 0x00#8] { State.reset with F := ⟨true, false, false, false⟩ }) =
      (0x041000#24, true) := by decide

theorem test_V177_jl_02 :
    (fun t : State => (t.P, t.F.G, t.F.E))
      (after [0xC8#8, 0x02#8] { State.reset with F := ⟨false, true, false, false⟩ }) =
      (0x040002#24, false, true) := by decide

theorem test_V179_jl_02 :
    (fun t : State => (t.P, t.F.G, t.F.E))
      (after [0xC8#8, 0x02#8] { State.reset with F := ⟨true, true, false, false⟩ }) =
      (0x040002#24, true, true) := by decide

theorem test_V180_jlf_0002 :
    (fun t : State => (t.P, t.F.G, t.F.E))
      (after [0xC9#8, 0x00#8, 0x02#8] { State.reset with F := ⟨false, false, false, false⟩ }) =
      (0x040005#24, false, false) := by decide

theorem test_V184_jsr_050000 :
    (fun t : State => (t.T, t.P, t.memRead 0x000100#24, t.memRead 0x000101#24, t.memRead 0x000102#24))
      (after [0xCB#8, 0x05#8, 0x00#8, 0x00#8] State.reset) =
      (3#12, 0x050000#24, 0x04#8, 0x00#8, 0x04#8) := by decide

theorem test_V187_ret :
    (fun t : State => (t.T, t.P))
      (after [0xCC#8] (holding { State.reset with T := 0#12 }
        [(0x0010FD#24, 0x12#8), (0x0010FE#24, 0x34#8), (0x0010FF#24, 0x56#8)])) =
      (4093#12, 0x123456#24) := by decide

theorem test_V188_jsr_000000 :
    (fun t : State => (t.T, t.P, t.memRead 0x0010FE#24, t.memRead 0x0010FF#24, t.memRead 0x000100#24))
      (after [0xCB#8, 0x00#8, 0x00#8, 0x00#8] { State.reset with T := 4094#12 }) =
      (1#12, 0x000000#24, 0x04#8, 0x00#8, 0x04#8) := by decide

theorem test_V191_pushc :
    (fun t : State => (t.T, t.P, t.memRead 0x0010FF#24))
      (after [0xCF#8] { State.reset with C := 0x33#8, T := 4095#12 }) =
      (0#12, 0x040001#24, 0x33#8) := by decide

theorem test_V192_pushs :
    (fun t : State => (t.T, t.P, t.memRead 0x000100#24, t.memRead 0x000101#24, t.memRead 0x000102#24))
      (after [0xD0#8] { State.reset with S := 0x123456#24 }) =
      (3#12, 0x040001#24, 0x12#8, 0x34#8, 0x56#8) := by decide

theorem test_V193_pushd :
    (fun t : State => (t.T, t.P, t.memRead 0x000103#24, t.memRead 0x000104#24, t.memRead 0x000105#24))
      (after [0xD1#8] { State.reset with D := 0xABCDEF#24, T := 3#12 }) =
      (6#12, 0x040001#24, 0xAB#8, 0xCD#8, 0xEF#8) := by decide

theorem test_V194_pushp :
    (fun t : State => (t.T, t.P, t.memRead 0x000100#24, t.memRead 0x000101#24, t.memRead 0x000102#24))
      (after [0xD2#8] { State.reset with P := 0x040010#24 }) =
      (3#12, 0x040011#24, 0x04#8, 0x00#8, 0x11#8) := by decide

theorem test_V195_push_ab :
    (fun t : State => (t.T, t.P, t.memRead 0x000100#24))
      (after [0xD3#8, 0xAB#8] State.reset) =
      (1#12, 0x040002#24, 0xAB#8) := by decide

theorem test_V196_popa :
    (fun t : State => (t.A, t.T, t.P, t.F.Z))
      (after [0xD4#8] (holding { State.reset with T := 1#12, F := ⟨false, false, false, false⟩ }
        [(0x000100#24, 0x00#8)])) =
      (0x00#8, 0#12, 0x040001#24, false) := by decide

theorem test_V198_popc :
    (fun t : State => (t.C, t.T, t.P))
      (after [0xD6#8] (holding { State.reset with T := 0#12 }
        [(0x0010FF#24, 0x99#8)])) =
      (0x99#8, 4095#12, 0x040001#24) := by decide

theorem test_V199_pops :
    (fun t : State => (t.S, t.T, t.P))
      (after [0xD7#8] (holding { State.reset with T := 3#12 }
        [(0x000100#24, 0x12#8), (0x000101#24, 0x34#8), (0x000102#24, 0x56#8)])) =
      (0x123456#24, 0#12, 0x040001#24) := by decide

theorem test_V200_popd :
    (fun t : State => (t.D, t.T, t.P))
      (after [0xD8#8] (holding { State.reset with T := 3#12 }
        [(0x000100#24, 0xAB#8), (0x000101#24, 0xCD#8), (0x000102#24, 0xEF#8)])) =
      (0xABCDEF#24, 0#12, 0x040001#24) := by decide

theorem test_V201_pop :
    (fun t : State => (t.T, t.P, t.memRead 0x000200#24))
      (after [0xD9#8] (holding { State.reset with D := 0x000200#24, T := 1#12 }
        [(0x000100#24, 0x5A#8)])) =
      (0#12, 0x040001#24, 0x5A#8) := by decide

theorem test_V206_clg :
    (fun t : State => (t.P, t.F.G, t.F.E, t.F.C, t.F.Z))
      (after [0xDA#8] { State.reset with F := ⟨true, true, true, true⟩ }) =
      (0x040001#24, false, true, true, true) := by decide

theorem test_V207_cle :
    (fun t : State => (t.P, t.F.G, t.F.E, t.F.C, t.F.Z))
      (after [0xDB#8] { State.reset with F := ⟨true, true, true, true⟩ }) =
      (0x040001#24, true, false, true, true) := by decide

theorem test_V208_clc :
    (fun t : State => (t.P, t.F.G, t.F.E, t.F.C, t.F.Z))
      (after [0xDC#8] { State.reset with F := ⟨true, true, true, true⟩ }) =
      (0x040001#24, true, true, false, true) := by decide

theorem test_V209_clz :
    (fun t : State => (t.P, t.F.G, t.F.E, t.F.C, t.F.Z))
      (after [0xDD#8] { State.reset with F := ⟨true, true, true, true⟩ }) =
      (0x040001#24, true, true, true, false) := by decide

theorem test_V210_clf :
    (fun t : State => (t.P, t.F.G, t.F.E, t.F.C, t.F.Z))
      (after [0xDE#8] { State.reset with F := ⟨true, true, true, true⟩ }) =
      (0x040001#24, false, false, false, false) := by decide

theorem test_V212_rst :
    (fun t : State => (t.P, t.F.C))
      (after [0xDF#8] { State.reset with A := 0x77#8, T := 5#12, P := 0x123456#24, F := ⟨false, false, true, false⟩ }) =
      (0x040000#24, true) := by decide

theorem test_V214_htl :
    (fun t : State => (t.P, t.run))
      (after [0xE0#8] { State.reset with A := 0x01#8 }) =
      (0x040001#24, .halted) := by decide

theorem test_V215_byte_e1 :
    (fun t : State => (t.P, t.run))
      (after [0xE1#8] { State.reset with A := 0x01#8 }) =
      (0x040000#24, .faulted 0xE1#8 0x040000#24) := by decide

/-! ### Witnesses: for each statement with hypotheses, a state and operands that meet them -/

/-- The flags of a state that a test starts from. -/
def flags (g e c z : Bool) (s : State) : State := s.setFlags ⟨g, e, c, z⟩

/-- Also where the instruction straddles the top of memory. -/
theorem witness_StepRunsTheDecodedInstruction :
    (placed [0x02#8, 0x10#8, 0#8, 0#8] State.reset).run = .running ∧
      decode ((placed [0x02#8, 0x10#8, 0#8, 0#8] State.reset).bytesAt 4 0x040000#24) =
        .ok (.ldaA8 0x10#8, [0#8, 0#8]) ∧
      decode ((placed [0xB2#8, 0x12#8, 0x34#8, 0x56#8] { State.reset with P := 0xFFFFFE#24 }).bytesAt 4 0xFFFFFE#24) =
        .ok (.jmpa 0x123456#24, []) := by decide

theorem witness_DecodingAnEncodedInstructionGivesItBack :
    [Instr.nop, .tsta 0, .tsta 7, .shla 1, .shra 8, .setsI24 0xFFFFFF#24, .undefined 0xE1#8, .undefined 0xFF#8].map
      Instr.wellFormed = [true, true, true, true, true, true, true, true] := by decide

theorem witness_EncodingADecodedInstructionGivesTheBytesBack :
    decode [0x11#8, 0xBE#8, 0xEF#8, 0x00#8] = .ok (.setsI16 0xBEEF#16, [0x00#8]) := by decide

/-- Both directions of the boundary at `$E1`. -/
theorem witness_FourBytesAlwaysHoldAnInstruction :
    decode [0xE0#8, 1#8, 2#8, 3#8] = .ok (.htl, [1#8, 2#8, 3#8]) ∧
      decode [0xE1#8, 1#8, 2#8, 3#8] = .ok (.undefined 0xE1#8, [1#8, 2#8, 3#8]) := by decide

/-- Two states with the same P that agree on the two bytes of the instruction and differ in the byte after it. -/
theorem witness_FetchReadsOnlyTheInstructionsBytes :
    (placed [0x02#8, 0x10#8, 1#8] State.reset).P = (placed [0x02#8, 0x10#8, 2#8] State.reset).P ∧
      (encode (placed [0x02#8, 0x10#8, 2#8] State.reset).fetch).length = 2 ∧
      ∀ k, k < 2 →
        (placed [0x02#8, 0x10#8, 1#8] State.reset).memRead ((placed [0x02#8, 0x10#8, 2#8] State.reset).nextAddr k) =
          (placed [0x02#8, 0x10#8, 2#8] State.reset).memRead
            ((placed [0x02#8, 0x10#8, 2#8] State.reset).nextAddr k) := by decide

theorem witness_PlacedTableWordIsWhatTheNextStepRuns : decodeTableWord 16 0x1002 = some (.ldaA8 0x10#8) := by
  decide +kernel

/-- A running machine that meets the invariant and steps: to a running one, and (by an undefined byte) to a faulted
one. -/
theorem witness_EveryStepKeepsTheInvariant :
    (placed [0x16#8] State.reset).Inv ∧
      step (placed [0x16#8] State.reset) = .next (after [0x16#8] State.reset) ∧
      (placed [0xE1#8] State.reset).Inv ∧
      step (placed [0xE1#8] State.reset) = .next (after [0xE1#8] State.reset) ∧
      (after [0xE1#8] State.reset).run = .faulted 0xE1#8 0x040000#24 :=
  ⟨⟨rfl, fun _ _ h => nomatch h⟩, rfl, ⟨rfl, fun _ _ h => nomatch h⟩, rfl, rfl⟩

/-- The three ways a step of a running machine leaves the run state, at the boundaries `$DF`, `$E0`, `$E1`, `$FF`. -/
theorem witness_RunStateIsLeftOnlyByHaltAndUndefinedBytes :
    (placed [0xDF#8] State.reset).run = .running ∧
      step (placed [0xDF#8] State.reset) = .next (after [0xDF#8] State.reset) ∧
      step (placed [0xE0#8] State.reset) = .next (after [0xE0#8] State.reset) ∧
      step (placed [0xE1#8] State.reset) = .next (after [0xE1#8] State.reset) ∧
      step (placed [0xFF#8] State.reset) = .next (after [0xFF#8] State.reset) ∧
      (after [0xDF#8] State.reset).run = .running ∧ (after [0xE0#8] State.reset).run = .halted ∧
      (after [0xE1#8] State.reset).run = .faulted 0xE1#8 0x040000#24 ∧
      (after [0xFF#8] State.reset).run = .faulted 0xFF#8 0x040000#24 :=
  ⟨rfl, rfl, rfl, rfl, rfl, rfl, rfl, rfl, rfl⟩

theorem witness_HaltedStaysAndFaultedStops :
    (State.reset.setRun .halted).EndedNormally ∧
      (State.reset.setRun (.faulted 0xE1#8 0x040000#24)).run = .faulted 0xE1#8 0x040000#24 := ⟨rfl, rfl⟩

theorem witness_OnlyTheListedStateIsWritten :
    exec (.push 0x07#8) State.reset = .next (result (.push 0x07#8) State.reset) ∧
      Part.A ∉ mayWrite (.push 0x07#8) :=
  ⟨rfl, by decide⟩

/-- The address next to the stored one, for a store and for a push of three bytes. -/
theorem witness_MemoryChangesOnlyAtTheStoredAddresses :
    exec .sta State.reset = .next (result .sta State.reset) ∧ 0x000001#24 ∉ mayStoreTo .sta State.reset ∧
      exec .pushs State.reset = .next (result .pushs State.reset) ∧ 0x000103#24 ∉ mayStoreTo .pushs State.reset :=
  ⟨rfl, by decide, rfl, by decide +kernel⟩

theorem witness_FlagsAreReadOnlyByConditionalJumps :
    isConditionalJump .addaB = false ∧ exec .addaB State.reset = .next (result .addaB State.reset) := ⟨rfl, rfl⟩

/-- Also at the top of memory. -/
theorem witness_InstructionsInSequenceMoveToTheNext :
    leavesSequence (.ldaA8 0x10#8) = false ∧
      exec (.ldaA8 0x10#8) State.reset = .next (result (.ldaA8 0x10#8) State.reset) ∧
      (result (.ldaA8 0x10#8) { State.reset with P := 0xFFFFFE#24 }).P = 0#24 := ⟨rfl, rfl, rfl⟩

theorem witness_StackBytesLieFromTheBaseUpward : State.reset.stackAddr 4095#12 = State.reset.stackAddr 4095#12 := rfl

/-- The bounds of the clauses: `$00`, `$CB`, `$CC`, `$D0`, `$D2`, `$D3`, `$D7`, `$D8`, `$E0`, with the source's figures. -/
theorem witness_CycleCountsFollowTheTable :
    (([0x00#8, 0xCA#8, 0xCB#8, 0xCC#8, 0xD0#8, 0xD1#8, 0xD2#8, 0xD3#8, 0xD7#8, 0xD8#8, 0xE0#8] : List Byte).map
      fun b => (decodeHead [b, 0#8, 0#8, 0#8]).bind cycleCount) =
      [some 1, some 4, some 7, some 7, some 4, some 4, some 4, some 2, some 4, some 4, some 1] := by decide

/-- Every form's own hypothesis on the state in the stated families: P below the top of memory. -/
theorem witness_Advances : State.reset.P.toNat + 2 < 2 ^ 24 := by decide

/-- For NearJumps, FarJumps, AbsoluteJumps: every condition holds in one state and fails in another, V176 to V179 for JL. -/
theorem witness_Jumps :
    (flags false false false true State.reset).F.Z = true ∧ (flags false false false false State.reset).F.Z = false ∧
      (flags false false true false State.reset).F.C = true ∧ (flags false false false false State.reset).F.C = false ∧
      (flags false true false false State.reset).F.E = true ∧ (flags false false false false State.reset).F.E = false ∧
      (flags true false false false State.reset).F.G = true ∧ (flags false true false false State.reset).F.G = false :=
  ⟨rfl, rfl, rfl, rfl, rfl, rfl, rfl, rfl⟩

/-- Both ends of the range of bit numbers, and V81, V82 for the two values of Z. -/
theorem witness_BitTestsComplementTheBitIntoZero :
    0 ≤ 7 ∧ 7 ≤ 7 ∧ (after [0x4B#8] { State.reset with A := 0x7F#8 }).F.Z = true ∧
      (after [0x4B#8] { State.reset with A := 0x80#8 }).F.Z = false := by decide

/-- Both ends of the range of counts, for LeftShiftsWriteNoFlag, RightShiftsWriteZero and
RightShiftAfterLeftShiftClearsTheTopBits. -/
theorem witness_Shifts :
    (1 ≤ 1 ∧ 1 ≤ 8) ∧ (1 ≤ 8 ∧ 8 ≤ 8) ∧ (after [0x7A#8] { State.reset with A := 0x81#8 }).A = 0x02#8 ∧
      (after [0x99#8] { State.reset with A := 0xFF#8 }).A = 0#8 := by decide

theorem witness_UndefinedBytesFaultTheMachine : 0xE1 ≤ (0xE1#8).toNat ∧ 0xE1 ≤ (0xFF#8).toNat := by decide

/-- An address beside the pushed bytes, and V189 then V196 as one pair. -/
theorem witness_PushThenPopRestoresTheRegister :
    (Instr.pusha, Instr.popa) ∈ [(Instr.pusha, Instr.popa), (.pushb, .popb)] ∧
      0x000103#24 ≠ State.reset.stackAddr 0#12 ∧ 0x000103#24 ≠ State.reset.stackAddr 1#12 ∧
      0x000103#24 ≠ State.reset.stackAddr 2#12 := by decide

/-- V127, V128, V129: greater, equal, less, and for each kind of jump a target that is not the address after it. -/
theorem witness_AfterACompareExactlyOneOfGreaterEqualLessJumps :
    exec (.cmpaI8 0x10#8) { State.reset with A := 0x20#8 } =
        .next (result (.cmpaI8 0x10#8) { State.reset with A := 0x20#8 }) ∧
      (result (.cmpaI8 0x10#8) { State.reset with A := 0x20#8 }).F = ⟨true, false, false, false⟩ ∧
      (result (.cmpaI8 0x20#8) { State.reset with A := 0x20#8 }).F = ⟨false, true, false, false⟩ ∧
      (result (.cmpaI8 0x30#8) { State.reset with A := 0x20#8 }).F = ⟨false, false, false, false⟩ ∧
      (result (.cmpaI8 0x10#8) { State.reset with A := 0x20#8 }).relTarget 0x80#8 2 ≠
        (result (.cmpaI8 0x10#8) { State.reset with A := 0x20#8 }).nextAddr 2 ∧
      (result (.cmpaI8 0x10#8) { State.reset with A := 0x20#8 }).relTarget 0x8000#16 3 ≠
        (result (.cmpaI8 0x10#8) { State.reset with A := 0x20#8 }).nextAddr 3 ∧
      0x050000#24 ≠ (result (.cmpaI8 0x10#8) { State.reset with A := 0x20#8 }).nextAddr 4 :=
  ⟨rfl, rfl, rfl, rfl, by decide, by decide, by decide⟩

/-- S equal to D; and D at the address after the STA, where the stored `$E0` is then fetched. -/
theorem witness_AStoreIsSeenByTheNextLoadAndFetch :
    State.reset.S = State.reset.D ∧
      ({ State.reset with A := 0xE0#8, D := 0x040001#24 } : State).D =
        ({ State.reset with A := 0xE0#8, D := 0x040001#24 } : State).nextAddr 1 ∧
      decode (0xE0#8 :: State.reset.bytesAt 3 0x040002#24) = .ok (.htl, State.reset.bytesAt 3 0x040002#24) :=
  ⟨rfl, rfl, rfl⟩

end Sys2Proof.Tests
end

section
/-! SUPPORT. What an instruction writes, as data: one value per part of State that it writes. Every instruction is such a
set of writes (`exec_writes`); the frame, the independence from the flags and the next P are then facts about writes, not
about 163 instructions. -/

namespace Sys2Proof.Machine

open Sys2Proof.Claims

/-- The values an instruction writes, by part of State; `none` (for memory `[]`) where it leaves the part as it is. -/
structure Writes where
  A : Option Byte := none
  B : Option Byte := none
  C : Option Byte := none
  S : Option Addr := none
  D : Option Addr := none
  T : Option StackPos := none
  P : Option Addr := none
  G : Option Bool := none
  E : Option Bool := none
  carry : Option Bool := none
  Z : Option Bool := none
  run : Option RunState := none
  /-- The stored bytes, in the order they are stored. -/
  mem : List (Addr × Byte) := []

namespace Writes

/-- The state with the writes done. -/
def apply (w : Writes) (s : State) : State where
  A := w.A.getD s.A
  B := w.B.getD s.B
  C := w.C.getD s.C
  S := w.S.getD s.S
  D := w.D.getD s.D
  T := w.T.getD s.T
  P := w.P.getD s.P
  F := ⟨w.G.getD s.F.G, w.E.getD s.F.E, w.carry.getD s.F.C, w.Z.getD s.F.Z⟩
  run := w.run.getD s.run
  mem := w.mem.foldl (fun m c => Memory.insert m c.1.toNat c.2) s.mem
  stackBase := s.stackBase

/-- Whether a part is among the written ones. -/
def touches (w : Writes) : Part → Bool
  | .A => w.A.isSome
  | .B => w.B.isSome
  | .C => w.C.isSome
  | .S => w.S.isSome
  | .D => w.D.isSome
  | .T => w.T.isSome
  | .P => w.P.isSome
  | .G => w.G.isSome
  | .E => w.E.isSome
  | .carry => w.carry.isSome
  | .Z => w.Z.isSome
  | .run => w.run.isSome
  | .mem => !w.mem.isEmpty
  | .stackBase => false

/-- The written parts, in the order in which `mayWrite` lists them. -/
def parts (w : Writes) : List Part :=
  [.A, .B, .C, .S, .D, .mem, .T, .G, .E, .carry, .Z, .run, .P].filter w.touches

theorem mem_parts (w : Writes) (p : Part) : p ∈ w.parts ↔ w.touches p = true := by
  cases p <;> simp [parts, touches]

/-- A part that is not written is as before. -/
theorem apply_same (w : Writes) (s : State) (p : Part) (h : w.touches p = false) : p.Same s (w.apply s) := by
  cases p <;> simp_all [touches, Part.Same, apply, State.memRead]

/-- The frame of a set of writes. -/
theorem apply_changesOnly (w : Writes) (s : State) : ChangesOnly w.parts s (w.apply s) :=
  fun p hp => w.apply_same s p (by simpa [mem_parts] using hp)

/-- A written flag gets the same value whatever the flags were, and no other part is written from the flags. -/
theorem apply_setFlags_same (w : Writes) (s : State) (f : Flags) (p : Part)
    (h : p ∈ [.G, .E, .carry, .Z] → w.touches p = true) : p.Same (w.apply s) (w.apply (s.setFlags f)) := by
  have getD_eq {o : Option Bool} (ho : o.isSome = true) (a b : Bool) : o.getD a = o.getD b := by
    cases o <;> simp_all
  cases p with
  | G | E | carry | Z => exact getD_eq (h (by simp)) _ _
  | A | B | C | S | D | T | P | run | stackBase => rfl
  | mem => exact fun _ => rfl

/-- The writes `w` are what the instruction does from `s`: they lead to the next state, they are the parts `mayWrite` lists,
only a conditional jump computes them from the flags, and where the instruction does not leave the sequence they put P at
the next instruction. -/
structure Describes (w : Writes) (i : Instr) (s : State) : Prop where
  exec_eq : exec i s = .next (w.apply s)
  parts_eq : w.parts = mayWrite i
  exec_setFlags : isConditionalJump i = false → ∀ f, exec i (s.setFlags f) = .next (w.apply (s.setFlags f))
  next : leavesSequence i = false → w.P = some (s.nextAddr (encode i).length)

/-- A conditional jump writes P alone, and reads the flags for it. -/
theorem describes_jumpIf {i : Instr} {s : State} {c : Cond} {target : Addr} {L : Nat}
    (hexec : exec i s = .next (s.jumpIf c target L)) (hparts : mayWrite i = [.P]) (hjump : isConditionalJump i = true)
    (hleaves : leavesSequence i = true) :
    Describes { P := some (if c.holds s.F then target else s.nextAddr L) } i s where
  exec_eq := by rw [hexec, State.jumpIf_spec]; rfl
  parts_eq := hparts.symm
  exec_setFlags h := by simp [hjump] at h
  next h := by simp [hleaves] at h

/-- The writes of a push of `w` that leaves P at `target`: three bytes, the most significant at the lowest stack position, and
T past them (`20_memory.md` R47). -/
def push24 (w target : Addr) (s : State) : Writes where
  mem := [(s.stackAddr s.T, byteOf24 w 2), (s.stackAddr (s.T + 1#12), byteOf24 w 1),
    (s.stackAddr (s.T + 2#12), byteOf24 w 0)]
  T := some (s.T + 3#12)
  P := some target

theorem push24_apply (w target : Addr) (s : State) :
    (push24 w target s).apply s = (s.push24 w).setP target := by
  simp [push24, apply, State.push24, State.push8, State.setP, State.setT, State.memWrite, State.stackAddr,
    BitVec.add_assoc]

/-- The instructions that push three bytes, whatever the flags are. -/
theorem describes_push24 {i : Instr} {s : State} {w target : Addr}
    (hexec : ∀ f, exec i (s.setFlags f) = .next (((s.setFlags f).push24 w).setP target))
    (hparts : mayWrite i = [.mem, .T, .P]) (hnext : leavesSequence i = false → target = s.nextAddr (encode i).length) :
    (push24 w target s).Describes i s where
  exec_eq := by rw [push24_apply]; exact hexec s.F
  parts_eq := hparts.symm
  exec_setFlags _ f := by rw [hexec f, ← push24_apply]; rfl
  next h := congrArg some (hnext h)

theorem describes_pushWord {i : Instr} {s : State} {w : Addr}
    (hexec : ∀ f, exec i (s.setFlags f) = .next ((s.setFlags f).pushWord w)) (hparts : mayWrite i = [.mem, .T, .P])
    (hlength : (encode i).length = 1) : (push24 w (s.nextAddr 1) s).Describes i s :=
  describes_push24 (fun f => by simp [hexec f, State.pushWord, State.advance]) hparts fun _ => by rw [hlength]

end Writes

theorem State.popReg24_eq (s : State) (r : Reg24) :
    s.popReg24 r = ((s.setT (s.T - 3#12)).setReg24 r s.pop24.1).advance 1 := by
  rw [State.popReg24, State.pop24_snd]

theorem exec_pops (s : State) :
    exec .pops s = .next (((s.setT (s.T - 3#12)).setReg24 .S s.pop24.1).advance 1) :=
  congrArg Host.Outcome.next (s.popReg24_eq .S)

theorem exec_popd (s : State) :
    exec .popd s = .next (((s.setT (s.T - 3#12)).setReg24 .D s.pop24.1).advance 1) :=
  congrArg Host.Outcome.next (s.popReg24_eq .D)

/-- Everything an instruction does is a set of writes, one case per row of `mayWrite`. -/
theorem exec_writes (i : Instr) (s : State) : ∃ w : Writes, w.Describes i s := by
  cases i with
  | nop => exact ⟨{ P := some _ }, rfl, rfl, fun _ _ => rfl, fun _ => rfl⟩
  | setaI8 | setaB | setaC | shla =>
    exact ⟨{ A := some _, P := some _ }, rfl, rfl, fun _ _ => rfl, fun _ => rfl⟩
  | setbI8 | setbA | setbC | shlb =>
    exact ⟨{ B := some _, P := some _ }, rfl, rfl, fun _ _ => rfl, fun _ => rfl⟩
  | setcI8 | setcA | setcB | shlc =>
    exact ⟨{ C := some _, P := some _ }, rfl, rfl, fun _ _ => rfl, fun _ => rfl⟩
  | setsI24 | setsI16 | setsI8 => exact ⟨{ S := some _, P := some _ }, rfl, rfl, fun _ _ => rfl, fun _ => rfl⟩
  | setdI24 | setdI16 | setdI8 => exact ⟨{ D := some _, P := some _ }, rfl, rfl, fun _ _ => rfl, fun _ => rfl⟩
  | lda | ldaA8 | andaI8 | andaB | andaC | oraI8 | oraB | oraC | xoraI8 | xoraB | xoraC | nota | shra =>
    exact ⟨{ A := some _, Z := some _, P := some _ }, rfl, rfl, fun _ _ => rfl, fun _ => rfl⟩
  | ldb | ldbA8 | andbI8 | andbA | andbC | orbI8 | orbA | orbC | xorbI8 | xorbA | xorbC | notb | shrb =>
    exact ⟨{ B := some _, Z := some _, P := some _ }, rfl, rfl, fun _ _ => rfl, fun _ => rfl⟩
  | ldc | ldcA8 | andcI8 | andcA | andcB | orcI8 | orcA | orcB | xorcI8 | xorcA | xorcB | notc | shrc =>
    exact ⟨{ C := some _, Z := some _, P := some _ }, rfl, rfl, fun _ _ => rfl, fun _ => rfl⟩
  | inca | addaI8 | addaB | addaC =>
    exact ⟨{ A := some _, carry := some _, P := some _ }, rfl, rfl, fun _ _ => rfl, fun _ => rfl⟩
  | incb | addbI8 | addbA | addbC =>
    exact ⟨{ B := some _, carry := some _, P := some _ }, rfl, rfl, fun _ _ => rfl, fun _ => rfl⟩
  | incc | addcI8 | addcA | addcB =>
    exact ⟨{ C := some _, carry := some _, P := some _ }, rfl, rfl, fun _ _ => rfl, fun _ => rfl⟩
  | incs | addsI16 | addsI8 | addsA =>
    exact ⟨{ S := some _, carry := some _, P := some _ }, rfl, rfl, fun _ _ => rfl, fun _ => rfl⟩
  | incd | adddI16 | adddI8 | adddA =>
    exact ⟨{ D := some _, carry := some _, P := some _ }, rfl, rfl, fun _ _ => rfl, fun _ => rfl⟩
  | deca | subaI8 | subaB | subaC =>
    exact ⟨{ A := some _, carry := some _, Z := some _, P := some _ }, rfl, rfl, fun _ _ => rfl, fun _ => rfl⟩
  | decb | subbI8 | subbA | subbC =>
    exact ⟨{ B := some _, carry := some _, Z := some _, P := some _ }, rfl, rfl, fun _ _ => rfl, fun _ => rfl⟩
  | decc | subcI8 | subcA | subcB =>
    exact ⟨{ C := some _, carry := some _, Z := some _, P := some _ }, rfl, rfl, fun _ _ => rfl, fun _ => rfl⟩
  | decs | subsI16 | subsI8 | subsA =>
    exact ⟨{ S := some _, carry := some _, Z := some _, P := some _ }, rfl, rfl, fun _ _ => rfl, fun _ => rfl⟩
  | decd | subdI16 | subdI8 | subdA =>
    exact ⟨{ D := some _, carry := some _, Z := some _, P := some _ }, rfl, rfl, fun _ _ => rfl, fun _ => rfl⟩
  | sta | staA8 | stb | stbA8 | stc | stcA8 =>
    exact ⟨{ mem := [(_, _)], P := some _ }, rfl, rfl, fun _ _ => rfl, fun _ => rfl⟩
  | tsta | tstb | tstc | clz => exact ⟨{ Z := some _, P := some _ }, rfl, rfl, fun _ _ => rfl, fun _ => rfl⟩
  | cmpaI8 | cmpaB | cmpaC | cmpbI8 | cmpbC | cmpcI8 =>
    exact ⟨{ G := some _, E := some _, P := some _ }, rfl, rfl, fun _ _ => rfl, fun _ => rfl⟩
  | clg => exact ⟨{ G := some _, P := some _ }, rfl, rfl, fun _ _ => rfl, fun _ => rfl⟩
  | cle => exact ⟨{ E := some _, P := some _ }, rfl, rfl, fun _ _ => rfl, fun _ => rfl⟩
  | clc => exact ⟨{ carry := some _, P := some _ }, rfl, rfl, fun _ _ => rfl, fun _ => rfl⟩
  | clf =>
    exact ⟨{ G := some _, E := some _, carry := some _, Z := some _, P := some _ }, rfl, rfl, fun _ _ => rfl, fun _ => rfl⟩
  | pusha | pushb | pushc | push | pop =>
    exact ⟨{ mem := [(_, _)], T := some _, P := some _ }, rfl, rfl, fun _ _ => rfl, fun _ => rfl⟩
  | pushs => exact ⟨_, Writes.describes_pushWord (w := s.S) (fun _ => rfl) rfl rfl⟩
  | pushd => exact ⟨_, Writes.describes_pushWord (w := s.D) (fun _ => rfl) rfl rfl⟩
  | pushp => exact ⟨_, Writes.describes_pushWord (w := s.nextAddr 1) (fun _ => rfl) rfl rfl⟩
  | popa => exact ⟨{ A := some _, T := some _, P := some _ }, rfl, rfl, fun _ _ => rfl, fun _ => rfl⟩
  | popb => exact ⟨{ B := some _, T := some _, P := some _ }, rfl, rfl, fun _ _ => rfl, fun _ => rfl⟩
  | popc => exact ⟨{ C := some _, T := some _, P := some _ }, rfl, rfl, fun _ _ => rfl, fun _ => rfl⟩
  | pops =>
    exact ⟨{ S := some s.pop24.1, T := some (s.T - 3#12), P := some _ }, (exec_pops s).trans rfl, rfl,
      fun _ f => (exec_pops (s.setFlags f)).trans rfl, fun _ => rfl⟩
  | popd =>
    exact ⟨{ D := some s.pop24.1, T := some (s.T - 3#12), P := some _ }, (exec_popd s).trans rfl, rfl,
      fun _ f => (exec_popd (s.setFlags f)).trans rfl, fun _ => rfl⟩
  | jmp | jmpf | jmpa | rst => exact ⟨{ P := some _ }, rfl, rfl, fun _ _ => rfl, nofun⟩
  | jz | jzf | jza | jnz | jnzf | jnza | jc | jcf | jca | jnc | jncf | jnca | je | jef | jea | jne | jnef | jnea
  | jg | jgf | jga | jl | jlf | jla => exact ⟨_, Writes.describes_jumpIf rfl rfl rfl rfl⟩
  | jsr a24 => exact ⟨.push24 (s.nextAddr 4) a24 s, Writes.describes_push24 (fun _ => rfl) rfl nofun⟩
  | ret => exact ⟨{ T := some _, P := some _ }, rfl, rfl, fun _ _ => rfl, nofun⟩
  | htl => exact ⟨{ run := some _, P := some _ }, rfl, rfl, fun _ _ => rfl, fun _ => rfl⟩
  | undefined => exact ⟨{ run := some _ }, rfl, rfl, fun _ _ => rfl, nofun⟩

/-- A next state is the state with the writes done. -/
theorem exec_next_writes {i : Instr} {s t : State} (h : exec i s = .next t) :
    ∃ w : Writes, w.Describes i s ∧ t = w.apply s := by
  obtain ⟨w, hw⟩ := exec_writes i s
  exact ⟨w, hw, Host.Outcome.next.inj (h.symm.trans hw.exec_eq)⟩

/-- An instruction changes only the parts that `mayWrite` lists. -/
theorem exec_changesOnly {i : Instr} {s t : State} (h : exec i s = .next t) : ChangesOnly (mayWrite i) s t := by
  obtain ⟨w, hw, rfl⟩ := exec_next_writes h
  exact hw.parts_eq ▸ w.apply_changesOnly s

/-- Where the sequence is not left, P is the address of the next instruction (`10_state.md` R16). -/
theorem exec_P_of_inSequence {i : Instr} {s t : State} (hseq : leavesSequence i = false) (h : exec i s = .next t) :
    t.P = s.nextAddr (encode i).length := by
  obtain ⟨w, hw, rfl⟩ := exec_next_writes h
  rw [Writes.apply, hw.next hseq, Option.getD_some]

end Sys2Proof.Machine
end

section
/-! SUPPORT. What the opcode byte at P says of the fetched instruction (`30_encoding.md` R80, R81), and what the instruction
does to the run state. -/

namespace Sys2Proof.Machine

open Sys2Proof.Claims

/-- What a step fetches is well formed, and its encoding begins with the opcode byte at P. -/
theorem State.fetch_encodes (s : State) :
    s.fetch.wellFormed = true ∧ ∃ operands, encode s.fetch = s.memRead s.P :: operands := by
  have hrow : s.fetchRow.Agrees (s.memRead s.P) := rowOf_agrees _
  unfold State.fetch
  cases hr : s.fetchRow <;> rw [hr] at hrow
  case implied i => exact ⟨hrow.1, [], hrow.2⟩
  case one f => exact ⟨(hrow _).1, _, (hrow _).2⟩
  case two f => exact ⟨(hrow _).1, _, (hrow _).2⟩
  case three f => exact ⟨(hrow _).1, _, (hrow _).2⟩

theorem State.fetch_htl (s : State) (h : s.memRead s.P = 0xE0#8) : s.fetch = .htl := by
  rw [State.fetch, State.fetchRow, h]
  rfl

theorem State.fetch_undefined (s : State) (h : 0xE1 ≤ (s.memRead s.P).toNat) :
    s.fetch = .undefined (s.memRead s.P) := by
  rw [State.fetch, State.fetchRow, rowOf_undefined _ h]
  rfl

/-- `HTL` and the undefined bytes are the only writers of the run state. -/
theorem run_mem_mayWrite {i : Instr} (h : Part.run ∈ mayWrite i) : i = .htl ∨ ∃ op, i = .undefined op := by
  cases i
  case htl => exact .inl rfl
  case undefined op => exact .inr ⟨op, rfl⟩
  all_goals simp [mayWrite] at h

/-- Below `$E0` nothing that is fetched writes the run state. -/
theorem State.run_notMem_mayWrite_fetch (s : State) (h : (s.memRead s.P).toNat < 0xE0) :
    Part.run ∉ mayWrite s.fetch := by
  intro hrun
  obtain ⟨hwf, operands, henc⟩ := s.fetch_encodes
  rcases run_mem_mayWrite hrun with hi | ⟨op, hi⟩ <;> rw [hi] at hwf henc
  · have hop : 0xE0#8 = s.memRead s.P := (List.cons.inj henc).1
    rw [← hop] at h
    exact absurd h (by decide)
  · have hop : op = s.memRead s.P := (List.cons.inj henc).1
    have hge : 0xE1 ≤ op.toNat := of_decide_eq_true hwf
    rw [← hop] at h
    omega

end Sys2Proof.Machine
end

section
/-! The statements of `10_state.md`. -/

namespace Sys2Proof.Machine

open Sys2Proof.Claims

/-- Settles O15: the frame of the writes an instruction is. -/
theorem onlyTheListedStateIsWritten : Obligations.OnlyTheListedStateIsWritten :=
  fun _ _ _ h => exec_changesOnly h

/-- Settles O13, by the three ranges of the opcode byte at P: below `$E0`, `$E0`, above `$E0`. -/
theorem runStateIsLeftOnlyByHaltAndUndefinedBytes : Obligations.RunStateIsLeftOnlyByHaltAndUndefinedBytes := by
  intro s t hrun hstep
  rw [step_of_running s hrun] at hstep
  have hframe := exec_changesOnly hstep
  rcases Nat.lt_trichotomy (s.memRead s.P).toNat 0xE0 with hlt | heq | hgt
  · have ht : t.run = .running := (hframe .run (s.run_notMem_mayWrite_fetch hlt)).trans hrun
    have hne : s.memRead s.P ≠ 0xE0#8 := fun h => absurd (h ▸ hlt) (by decide)
    have hnot : ¬ 0xE1 ≤ (s.memRead s.P).toNat := by omega
    simp [State.EndedNormally, State.GoneWrong, ht, hne, hnot]
  · have hop : s.memRead s.P = 0xE0#8 := BitVec.eq_of_toNat_eq heq
    rw [s.fetch_htl hop] at hstep
    obtain rfl : (s.advance 1).halt = t := Host.Outcome.next.inj hstep
    simp [State.EndedNormally, State.GoneWrong, hop]
  · have hge : 0xE1 ≤ (s.memRead s.P).toNat := hgt
    rw [s.fetch_undefined hge] at hstep hframe
    have ht : t.run = .faulted (s.memRead s.P) s.P := Host.Outcome.next.inj hstep ▸ s.raiseIllegalOpcode_run _
    have hne : s.memRead s.P ≠ 0xE0#8 := fun h => absurd (h ▸ hge) (by decide)
    have hnot : ¬ (s.memRead s.P).toNat < 0xE0 := by omega
    have hrest : ChangesOnly [.run] s t := hframe
    simp [State.EndedNormally, State.GoneWrong, ht, hne, hge, hnot, hrest]

/-- Settles O17: an instruction that is no conditional jump does the same writes whatever the flags are. -/
theorem flagsAreReadOnlyByConditionalJumps : Obligations.FlagsAreReadOnlyByConditionalJumps := by
  intro i s t f hjump hexec
  obtain ⟨w, hw, rfl⟩ := exec_next_writes hexec
  refine ⟨_, hw.exec_setFlags hjump f, fun p hp => w.apply_setFlags_same s f p fun hflag => ?_⟩
  rw [← w.mem_parts, hw.parts_eq]
  by_contra hwritten
  exact hp (List.mem_filter.2 ⟨hflag, decide_eq_true hwritten⟩)

/-- Settles O18: in sequence an instruction writes the next address to P. -/
theorem instructionsInSequenceMoveToTheNext : Obligations.InstructionsInSequenceMoveToTheNext := by
  intro i s t hseq hexec
  rw [MovesOn, exec_P_of_inSequence hseq hexec, State.nextAddr_toNat]

/-- Settles O20: each of the four flags at its bit, and the zero nibble above them. -/
theorem flagByteHasTheSourcesLayout : Obligations.FlagByteHasTheSourcesLayout := by
  intro f k
  unfold Flags.toByte
  change BitVec.getLsbD (w := 4 + 1 + 1 + 1 + 1) _ _ = _
  simp only [BitVec.getLsbD_append]
  match k with
  | 0 | 1 | 2 | 3 | _ + 4 => simp

end Sys2Proof.Machine
end

section
/-! SUPPORT. What the storing operations and the pops leave in memory and on the stack (`20_memory.md` R41, R44 to R48), and
the canonical form of memory after a set of writes. -/

namespace Sys2Proof.Machine

open Sys2Proof.Claims

variable (s : State)

/-! ### Every byte of memory after an operation -/

theorem State.store8_memRead (r : Reg8) (ea : Addr) (L : Nat) (a : Addr) :
    (s.store8 r ea L).memRead a = if a = ea then s.reg8 r else s.memRead a :=
  s.memRead_memWrite ea a _

/-- A load from the address just stored to gives the stored register (`20_memory.md` R41). -/
theorem State.load8_store8_reg8 (r q : Reg8) (ea : Addr) (L L' : Nat) :
    ((s.store8 r ea L).load8 q ea L').reg8 q = s.reg8 r := by
  obtain ⟨hq, -⟩ := (s.store8 r ea L).load8_spec q ea L'
  rw [hq, State.store8_memRead, if_pos rfl]

theorem State.popMem_memRead (a : Addr) :
    s.popMem.memRead a = if a = s.destAddr then s.pop8.1 else s.memRead a :=
  s.pop8.2.memRead_memWrite s.destAddr a _

theorem State.pushByte_memRead (v : Byte) (L : Nat) (a : Addr) :
    (s.pushByte v L).memRead a = if a = s.stackAddr s.T then v else s.memRead a :=
  s.push8_memRead v a

theorem State.push24_memRead_other (w a : Addr)
    (h : a ∉ [s.stackAddr s.T, s.stackAddr (s.T + 1#12), s.stackAddr (s.T + 2#12)]) :
    (s.push24 w).memRead a = s.memRead a := by
  simp only [List.mem_cons, List.not_mem_nil, or_false, not_or] at h
  obtain ⟨h0, h1, h2⟩ := h
  rw [s.push24_memRead, if_neg h2, if_neg h1, if_neg h0]

/-- The most significant byte lowest (`20_memory.md` R47). -/
theorem State.pushWord_memRead (w a : Addr) :
    (s.pushWord w).memRead a =
      if a = s.stackAddr (s.T + 2#12) then byteOf24 w 0
      else if a = s.stackAddr (s.T + 1#12) then byteOf24 w 1
      else if a = s.stackAddr s.T then byteOf24 w 2
      else s.memRead a :=
  s.push24_memRead w a

theorem State.pushWord_memRead_other (w a : Addr)
    (h : a ∉ [s.stackAddr s.T, s.stackAddr (s.T + 1#12), s.stackAddr (s.T + 2#12)]) :
    (s.pushWord w).memRead a = s.memRead a :=
  s.push24_memRead_other w a h

@[simp] theorem State.popReg8_memRead (r : Reg8) (a : Addr) : (s.popReg8 r).memRead a = s.memRead a := by
  simp [State.popReg8]

@[simp] theorem State.popReg24_memRead (r : Reg24) (a : Addr) : (s.popReg24 r).memRead a = s.memRead a := by
  simp [State.popReg24]

/-! ### The stack and the registers after a push and after a pop -/

@[simp] theorem State.pushByte_T (v : Byte) (L : Nat) : (s.pushByte v L).T = s.T + 1#12 := rfl
@[simp] theorem State.pushWord_T (w : Addr) : (s.pushWord w).T = s.T + 3#12 := s.push24_T w
@[simp] theorem State.popReg8_T (r : Reg8) : (s.popReg8 r).T = s.T - 1#12 := by simp [State.popReg8]
@[simp] theorem State.popReg24_T (r : Reg24) : (s.popReg24 r).T = s.T - 3#12 := by simp [State.popReg24]
@[simp] theorem State.pushByte_stackAddr (v : Byte) (L : Nat) (t : StackPos) :
    (s.pushByte v L).stackAddr t = s.stackAddr t := rfl
@[simp] theorem State.pushWord_stackAddr (w : Addr) (t : StackPos) : (s.pushWord w).stackAddr t = s.stackAddr t :=
  s.push24_stackAddr w t
@[simp] theorem State.popReg8_stackAddr (r : Reg8) (t : StackPos) : (s.popReg8 r).stackAddr t = s.stackAddr t := by
  simp [State.popReg8]
@[simp] theorem State.pushByte_reg8 (v : Byte) (L : Nat) (q : Reg8) : (s.pushByte v L).reg8 q = s.reg8 q :=
  s.push8_reg8 v q
@[simp] theorem State.pushByte_reg24 (v : Byte) (L : Nat) (q : Reg24) : (s.pushByte v L).reg24 q = s.reg24 q :=
  s.push8_reg24 v q
@[simp] theorem State.pushWord_reg8 (w : Addr) (q : Reg8) : (s.pushWord w).reg8 q = s.reg8 q := s.push24_reg8 w q
@[simp] theorem State.pushWord_reg24 (w : Addr) (q : Reg24) : (s.pushWord w).reg24 q = s.reg24 q := s.push24_reg24 w q

theorem State.popReg8_reg8 (r q : Reg8) :
    (s.popReg8 r).reg8 q = if q = r then s.memRead (s.stackAddr (s.T - 1#12)) else s.reg8 q := by
  obtain ⟨hsame, hother, -⟩ := s.popReg8_spec r
  split_ifs with h
  · rw [h, hsame]
  · exact hother q h

/-! ### A pop reads what was pushed -/

/-- A push of one byte and a pop into `r`: the value is in `r`, T and the other registers are as before (`20_memory.md` R45,
R46). -/
theorem State.popReg8_pushByte_regs (r : Reg8) (v : Byte) (L : Nat) :
    ((s.pushByte v L).popReg8 r).reg8 r = v ∧
      (∀ q, q ≠ r → ((s.pushByte v L).popReg8 r).reg8 q = s.reg8 q) ∧
      (∀ q, ((s.pushByte v L).popReg8 r).reg24 q = s.reg24 q) ∧
      ((s.pushByte v L).popReg8 r).T = s.T := by
  obtain ⟨hr, hother, h24, -⟩ := (s.pushByte v L).popReg8_spec r
  refine ⟨?_, fun q hq => ?_, fun q => ?_, by simp⟩
  · rw [hr]
    simp [State.pushByte_memRead]
  · rw [hother q hq, State.pushByte_reg8]
  · rw [h24, State.pushByte_reg24]

/-- The three bytes just below T after a push of three (`20_memory.md` R47). -/
theorem State.pop24_pushWord (w : Addr) : (s.pushWord w).pop24.1 = w := by
  simp [State.pushWord_memRead, State.stackAddr_inj, add_sub_assoc]

/-- A push of three bytes and a pop into `r`: the value is in `r`, T and the other registers are as before (`20_memory.md`
R47). -/
theorem State.popReg24_pushWord_regs (r : Reg24) (w : Addr) :
    ((s.pushWord w).popReg24 r).reg24 r = w ∧
      (∀ q, q ≠ r → ((s.pushWord w).popReg24 r).reg24 q = s.reg24 q) ∧
      (∀ q, ((s.pushWord w).popReg24 r).reg8 q = s.reg8 q) ∧
      ((s.pushWord w).popReg24 r).T = s.T := by
  obtain ⟨hr, hother, h8, -⟩ := (s.pushWord w).popReg24_spec r
  refine ⟨?_, fun q hq => ?_, fun q => ?_, by simp⟩
  · rw [hr, State.pop24_pushWord]
  · rw [hother q hq, State.pushWord_reg24]
  · rw [h8, State.pushWord_reg8]

/-- Three one-byte pops after a push of three bytes take them from the least significant up (`20_memory.md` R47). -/
theorem State.popReg8_thrice_pushWord_reg8 (w : Addr) {r0 r1 r2 : Reg8} (h01 : r0 ≠ r1) (h02 : r0 ≠ r2) (h12 : r1 ≠ r2) :
    ((((s.pushWord w).popReg8 r0).popReg8 r1).popReg8 r2).reg8 r0 = byteOf24 w 0 ∧
      ((((s.pushWord w).popReg8 r0).popReg8 r1).popReg8 r2).reg8 r1 = byteOf24 w 1 ∧
      ((((s.pushWord w).popReg8 r0).popReg8 r1).popReg8 r2).reg8 r2 = byteOf24 w 2 := by
  simp [State.popReg8_reg8, h01, h02, h12, State.pushWord_memRead, State.stackAddr_inj, add_sub_assoc]

/-- A 24-bit pop after three one-byte pushes reads the byte pushed first as the most significant (`20_memory.md` R47). -/
theorem State.pushByte_thrice_pop24 (hi mid lo : Byte) (L : Nat) :
    (((s.pushByte hi L).pushByte mid L).pushByte lo L).pop24.1 = join24 hi mid lo := by
  simp [State.pushByte_memRead, State.stackAddr_inj, BitVec.add_assoc, add_sub_assoc]

theorem num24_byteOf24 (w : Addr) : num24 (byteOf24 w 2) (byteOf24 w 1) (byteOf24 w 0) = w.toNat := by
  rw [num24, ← join24_toNat, join24_byteOf24]

/-! ### Frames -/

/-- Two states with the same registers, flags, run state and STACK_BASE differ only in memory and P. -/
theorem changesOnly_mem_P {s t : State} (h8 : ∀ q, t.reg8 q = s.reg8 q) (h24 : ∀ q, t.reg24 q = s.reg24 q)
    (hT : t.T = s.T) (hF : t.F = s.F) (hrun : t.run = s.run) (hbase : t.stackBase = s.stackBase) :
    ChangesOnly [.mem, .P] s t := by
  intro p hp
  cases p with
  | A => exact h8 .A
  | B => exact h8 .B
  | C => exact h8 .C
  | S => exact h24 .S
  | D => exact h24 .D
  | T => exact hT
  | G | E | carry | Z => exact congrArg _ hF
  | run => exact hrun
  | stackBase => exact hbase
  | P | mem => simp at hp

/-- A push of a register and the pop into it change P and the stack bytes written, nothing else. -/
theorem State.popReg8_pushByte_restores (r : Reg8) (L : Nat) :
    ChangesOnly [.mem, .P] s ((s.pushByte (s.reg8 r) L).popReg8 r) ∧
      ∀ a, a ≠ s.stackAddr s.T → a ≠ s.stackAddr (s.T + 1#12) → a ≠ s.stackAddr (s.T + 2#12) →
        ((s.pushByte (s.reg8 r) L).popReg8 r).memRead a = s.memRead a := by
  obtain ⟨-, -, hF, -, -, -, hrun, hbase⟩ := s.pushByte_spec (s.reg8 r) L
  obtain ⟨-, -, -, hF', -, -, -, hrun', hbase'⟩ := (s.pushByte (s.reg8 r) L).popReg8_spec r
  obtain ⟨hr, hother, h24, hT⟩ := s.popReg8_pushByte_regs r (s.reg8 r) L
  refine ⟨changesOnly_mem_P (fun q => ?_) h24 hT (hF'.trans hF) (hrun'.trans hrun) (hbase'.trans hbase),
    fun a h0 _ _ => ?_⟩
  · by_cases hq : q = r
    · rw [hq, hr]
    · exact hother q hq
  · rw [State.popReg8_memRead, State.pushByte_memRead, if_neg h0]

theorem State.popReg24_pushWord_restores (r : Reg24) :
    ChangesOnly [.mem, .P] s ((s.pushWord (s.reg24 r)).popReg24 r) ∧
      ∀ a, a ≠ s.stackAddr s.T → a ≠ s.stackAddr (s.T + 1#12) → a ≠ s.stackAddr (s.T + 2#12) →
        ((s.pushWord (s.reg24 r)).popReg24 r).memRead a = s.memRead a := by
  obtain ⟨-, -, hF, -, -, -, hrun, hbase⟩ := s.pushWord_spec (s.reg24 r)
  obtain ⟨-, -, -, hF', -, -, -, hrun', hbase'⟩ := (s.pushWord (s.reg24 r)).popReg24_spec r
  obtain ⟨hr, hother, h8, hT⟩ := s.popReg24_pushWord_regs r (s.reg24 r)
  refine ⟨changesOnly_mem_P h8 (fun q => ?_) hT (hF'.trans hF) (hrun'.trans hrun) (hbase'.trans hbase),
    fun a h0 h1 h2 => ?_⟩
  · by_cases hq : q = r
    · rw [hq, hr]
    · exact hother q hq
  · rw [State.popReg24_memRead, s.pushWord_memRead_other _ a (by simp [h0, h1, h2])]

/-! ### The canonical form -/

theorem Writes.wf_apply (w : Writes) (h : Memory.wf s.mem = true) : Memory.wf (w.apply s).mem = true := by
  simp only [Writes.apply]
  induction w.mem generalizing s with
  | nil => exact h
  | cons c cs ih => exact ih (s.memWrite c.1 c.2) (s.wf_memWrite c.1 c.2 h)

/-- Every instruction keeps memory in its canonical form. -/
theorem exec_wf {i : Instr} {s t : State} (h : exec i s = .next t) (hwf : Memory.wf s.mem = true) :
    Memory.wf t.mem = true := by
  obtain ⟨w, -, rfl⟩ := exec_next_writes h
  exact w.wf_apply s hwf

/-! ### The stored addresses -/

/-- Outside the addresses of `mayStoreTo` memory reads as before: the stores and the pushes by what each of them writes, every
other instruction because memory is no part of its frame. -/
theorem exec_memRead_of_notMem_mayStoreTo {i : Instr} {s t : State} {a : Addr} (h : exec i s = .next t)
    (ha : a ∉ mayStoreTo i s) : t.memRead a = s.memRead a := by
  cases i
  case sta | stb | stc | staA8 | stbA8 | stcA8 =>
    cases h
    exact (s.store8_memRead _ _ _ a).trans (if_neg (List.ne_of_not_mem_cons ha))
  case pop =>
    cases h
    exact (s.popMem_memRead a).trans (if_neg (List.ne_of_not_mem_cons ha))
  case pusha | pushb | pushc | push =>
    cases h
    exact (s.pushByte_memRead _ _ a).trans (if_neg (List.ne_of_not_mem_cons ha))
  case pushs => cases h; exact s.pushWord_memRead_other s.S a ha
  case pushd => cases h; exact s.pushWord_memRead_other s.D a ha
  case pushp => cases h; exact s.pushWord_memRead_other (s.nextAddr 1) a ha
  case jsr => cases h; exact s.push24_memRead_other (s.nextAddr 4) a ha
  all_goals exact exec_changesOnly h .mem (by simp [mayWrite]) a

/-! ### The fetch -/

/-- What the decoder reads from the four bytes at P is what is fetched (`30_encoding.md` R82). -/
theorem State.fetch_eq_of_decode {s : State} {i : Instr} {rest : List Byte}
    (h : decode (s.bytesAt 4 s.P) = .ok (i, rest)) : s.fetch = i := by
  rw [State.bytesAt_four, decode] at h
  split at h
  · obtain ⟨rfl, -⟩ := Prod.mk.inj (Except.ok.inj h)
    rw [State.fetch, State.fetchRow]
    cases rowOf (s.memRead s.P) <;> rfl
  · cases h

/-- A running machine runs what the four bytes at P decode to (`30_encoding.md` R82). -/
theorem step_of_decode {s : State} {i : Instr} {rest : List Byte} (hrun : s.run = .running)
    (h : decode (s.bytesAt 4 s.P) = .ok (i, rest)) : step s = exec i s := by
  rw [step_of_running s hrun, State.fetch_eq_of_decode h]

end Sys2Proof.Machine
end

section
/-! The statements of `20_memory.md`. -/

namespace Sys2Proof.Machine

open Sys2Proof.Claims

/-- Settles O10: every instruction keeps the canonical form, and a step that faults records the byte at P and changes neither
P nor memory. -/
theorem everyStepKeepsTheInvariant : Obligations.EveryStepKeepsTheInvariant := by
  intro s t hinv hstep
  rcases step_next s t hstep with ⟨hrun, hexec⟩ | ⟨-, rfl⟩
  · obtain ⟨-, hgone, hrecords, -⟩ := runStateIsLeftOnlyByHaltAndUndefinedBytes s t hrun hstep
    refine ⟨exec_wf hexec hinv.1, fun op addr hfaulted => ?_⟩
    have hwrong : t.GoneWrong := ⟨op, addr, hfaulted⟩
    obtain ⟨hrecorded, hframe⟩ := hrecords hwrong
    obtain ⟨rfl, rfl⟩ := RunState.faulted.inj (hfaulted.symm.trans hrecorded)
    have hP : t.P = s.P := hframe .P (by simp)
    have hmem : ∀ a, t.memRead a = s.memRead a := hframe .mem (by simp)
    exact ⟨hP.symm, hmem _, hgone.1 hwrong⟩
  · exact hinv

/-- Settles O16: each storing instruction by what it writes, the others by their frame. -/
theorem memoryChangesOnlyAtTheStoredAddresses : Obligations.MemoryChangesOnlyAtTheStoredAddresses :=
  fun _ _ _ _ hexec ha => exec_memRead_of_notMem_mayStoreTo hexec ha

/-- Settles O53: the three one-byte pairs are one argument over the register, the two 24-bit pairs another. -/
theorem pushThenPopRestoresTheRegister : Obligations.PushThenPopRestoresTheRegister := by
  intro s p hp
  simp only [List.mem_cons, List.not_mem_nil, or_false] at hp
  rcases hp with rfl | rfl | rfl | rfl | rfl
  · exact ⟨_, rfl, s.popReg8_pushByte_restores .A 1⟩
  · exact ⟨_, rfl, s.popReg8_pushByte_restores .B 1⟩
  · exact ⟨_, rfl, s.popReg8_pushByte_restores .C 1⟩
  · exact ⟨_, rfl, s.popReg24_pushWord_restores .S⟩
  · exact ⟨_, rfl, s.popReg24_pushWord_restores .D⟩

/-- Settles O54: the bytes of a wide value lie most significant byte lowest, and a pop reads them from the top. -/
theorem wideValuesPassThroughTheStackBigEndian : Obligations.WideValuesPassThroughTheStackBigEndian := by
  intro s
  refine ⟨⟨(((s.pushWord s.S).popReg8 .A).popReg8 .B).popReg8 .C, rfl, ?_, by simp [sub_sub]⟩,
    ⟨(((s.pushByte s.C 1).pushByte s.B 1).pushByte s.A 1).popReg24 .S, rfl, ?_, by simp [BitVec.add_assoc]⟩, ?_, ?_⟩
  · obtain ⟨hA, hB, hC⟩ := s.popReg8_thrice_pushWord_reg8 s.S (r0 := .A) (r1 := .B) (r2 := .C) nofun nofun nofun
    rw [← num24_byteOf24 s.S, ← hA, ← hB, ← hC]
    rfl
  · obtain ⟨hS, -⟩ := (((s.pushByte s.C 1).pushByte s.B 1).pushByte s.A 1).popReg24_spec .S
    rw [← State.reg24_S, hS, State.pushByte_thrice_pop24, join24_toNat, num24]
  · obtain ⟨hD, hother, -, hT⟩ := s.popReg24_pushWord_regs .D s.S
    exact ⟨_, rfl, hD, hother .S nofun, hT⟩
  · obtain ⟨hS, hother, -, hT⟩ := s.popReg24_pushWord_regs .S s.D
    exact ⟨_, rfl, hS, hother .D nofun, hT⟩

/-- Settles O60: the loads read the address just stored to; the stored byte is the opcode byte that the next step decodes. -/
theorem aStoreIsSeenByTheNextLoadAndFetch : Obligations.AStoreIsSeenByTheNextLoadAndFetch := by
  refine ⟨fun s a8 => ⟨_, rfl, s.load8_store8_reg8 .A .B (zeroPageAddr a8) 2 2⟩,
    fun s hSD => ⟨(s.store8 .A s.D 1).load8 .B s.S 1, rfl, ?_⟩,
    fun s hrun hD => ⟨s.store8 .A s.D 1, rfl, fun i rest hdecode => ?_⟩⟩
  · rw [hSD]
    exact s.load8_store8_reg8 .A .B s.D 1 1
  · have hP : (s.store8 .A s.D 1).P = s.D := hD.symm
    have hbyte : (s.store8 .A s.D 1).memRead (s.store8 .A s.D 1).P = s.A := by
      rw [hP, State.store8_memRead, if_pos rfl, State.reg8_A]
    rw [← hbyte] at hdecode
    exact step_of_decode (s := s.store8 .A s.D 1) hrun hdecode

/-- Settles O9: no byte is written and the machine runs. -/
theorem invariantHoldsAtReset : Obligations.InvariantHoldsAtReset :=
  ⟨State.wf_reset, nofun⟩

/-- Settles O19: the stack is shorter than memory, so its positions do not meet. -/
theorem stackBytesLieFromTheBaseUpward : Obligations.StackBytesLieFromTheBaseUpward :=
  fun s t u => ⟨s.stackAddr_toNat t, (s.stackAddr_inj t u).1⟩

end Sys2Proof.Machine
end

section
/-! SUPPORT. The decoder and the encoder through the opcode table: what a row selects, its bytes, and both round trips
(`30_encoding.md` R70 to R72, R77, R78, R80, R81). -/

namespace Sys2Proof

/-! ### What a row selects -/

/-- The operand bytes that a row takes from `b`, at `P0 + 1` and up (`30_encoding.md` R72). -/
def Row.operands (r : Row) (b : Nat → Byte) : List Byte := (List.range r.operandBytes).map fun k => b (k + 1)

@[simp] theorem Row.operands_length (r : Row) (b : Nat → Byte) : (r.operands b).length = r.operandBytes := by
  simp [Row.operands]

theorem Row.operandBytes_le (r : Row) : r.operandBytes ≤ 3 := by
  cases r <;> simp [Row.operandBytes]

/-- A row reads no byte past its operand bytes. -/
theorem Row.instr_congr (r : Row) {b c : Nat → Byte} (h : ∀ k, 1 ≤ k → k ≤ r.operandBytes → b k = c k) :
    r.instr b = r.instr c := by
  cases r <;> simp only [Row.operandBytes] at h
  case implied i => rfl
  case one f => rw [Row.instr, Row.instr, h 1 (by decide) (by decide)]
  case two f => rw [Row.instr, Row.instr, h 1 (by decide) (by decide), h 2 (by decide) (by decide)]
  case three f =>
    rw [Row.instr, Row.instr, h 1 (by decide) (by decide), h 2 (by decide) (by decide), h 3 (by decide) (by decide)]

theorem wellFormed_rowOf_instr (op : Byte) (b : Nat → Byte) : ((rowOf op).instr b).wellFormed = true := by
  have hrow := rowOf_agrees op
  cases hr : rowOf op <;> rw [hr] at hrow
  case implied i => exact hrow.1
  case one f => exact (hrow _).1
  case two f => exact (hrow _).1
  case three f => exact (hrow _).1

/-- The bytes of what a row selects: the opcode byte, then the operand bytes it was selected with. -/
theorem encode_rowOf_instr (op : Byte) (b : Nat → Byte) :
    encode ((rowOf op).instr b) = op :: (rowOf op).operands b := by
  have hrow := rowOf_agrees op
  cases hr : rowOf op <;> rw [hr] at hrow
  case implied i => exact hrow.2
  case one f => exact (hrow _).2
  case two f => exact (hrow _).2.trans (by rw [byteOf16_join16_1, byteOf16_join16_0]; rfl)
  case three f =>
    exact (hrow _).2.trans (by rw [byteOf24_join24_2, byteOf24_join24_1, byteOf24_join24_0]; rfl)

/-- A one-byte operand may be any byte. -/
theorem Row.exists_instr_one {r : Row} {f : Byte → Instr} {v : Byte} (hr : r = .one f) : ∃ b, r.instr b = f v :=
  ⟨fun _ => v, by rw [hr, Row.instr]⟩

/-- A two-byte operand may be any 16-bit value. -/
theorem Row.exists_instr_two {r : Row} {f : Word16 → Instr} {v : Word16} (hr : r = .two f) : ∃ b, r.instr b = f v :=
  ⟨fun k => byteOf16 v (2 - k), by rw [hr, Row.instr, join16_byteOf16]⟩

/-- A three-byte operand may be any 24-bit value. -/
theorem Row.exists_instr_three {r : Row} {f : Addr → Instr} {v : Addr} (hr : r = .three f) : ∃ b, r.instr b = f v :=
  ⟨fun k => byteOf24 v (3 - k), by rw [hr, Row.instr, join24_byteOf24]⟩

theorem Row.exists_instr_implied {r : Row} {i : Instr} (hr : r = .implied i) : ∃ b, r.instr b = i :=
  ⟨fun _ => 0, by rw [hr, Row.instr]⟩

/-- The first byte of a well-formed instruction's encoding selects the row that has the instruction: an operand is read back
from its bytes (R72), a bit number or a shift count from the opcode byte itself (R77, R78). -/
theorem rowOf_head_encode {i : Instr} (hwf : i.wellFormed = true) :
    ∃ b, (rowOf ((encode i).headD 0)).instr b = i := by
  cases i with
  | ldaA8 v | ldbA8 v | ldcA8 v | setaI8 v | setbI8 v | setcI8 v | setsI8 v | setdI8 v | staA8 v | stbA8 v | stcA8 v
  | addaI8 v | addbI8 v | addcI8 v | addsI8 v | adddI8 v | subaI8 v | subbI8 v | subcI8 v | subsI8 v | subdI8 v
  | andaI8 v | andbI8 v | andcI8 v | oraI8 v | orbI8 v | orcI8 v | xoraI8 v | xorbI8 v | xorcI8 v
  | cmpaI8 v | cmpbI8 v | cmpcI8 v | jmp v | jz v | jnz v | jc v | jnc v | je v | jne v | jg v | jl v | push v =>
    exact Row.exists_instr_one rfl
  | setsI16 v | setdI16 v | addsI16 v | adddI16 v | subsI16 v | subdI16 v
  | jmpf v | jzf v | jnzf v | jcf v | jncf v | jef v | jnef v | jgf v | jlf v =>
    exact Row.exists_instr_two rfl
  | setsI24 v | setdI24 v | jmpa v | jza v | jnza v | jca v | jnca v | jea v | jnea v | jga v | jla v | jsr v =>
    exact Row.exists_instr_three rfl
  | tsta ib | tstb ib | tstc ib =>
    have hib : ib ≤ 7 := of_decide_eq_true hwf
    exact Row.exists_instr_implied (by interval_cases ib <;> rfl)
  | shla n | shlb n | shlc n | shra n | shrb n | shrc n =>
    obtain ⟨hge, hle⟩ := Bool.and_eq_true_iff.1 hwf
    have hpos : 1 ≤ n := of_decide_eq_true hge
    have hmax : n ≤ 8 := of_decide_eq_true hle
    exact Row.exists_instr_implied (by interval_cases n <;> rfl)
  | undefined op => exact Row.exists_instr_implied (rowOf_undefined op (of_decide_eq_true hwf))
  | _ => exact Row.exists_instr_implied rfl

/-- A well-formed instruction is what its opcode byte's row selects, with some operand bytes. -/
theorem exists_rowOf_instr {i : Instr} (hwf : i.wellFormed = true) : ∃ op b, i = (rowOf op).instr b := by
  obtain ⟨b, hb⟩ := rowOf_head_encode hwf
  exact ⟨_, b, hb.symm⟩

/-! ### The decoder -/

/-- The decoder succeeds as soon as the operand bytes are there. -/
theorem decode_cons {op : Byte} {tail : List Byte} (h : (rowOf op).operandBytes ≤ tail.length) :
    decode (op :: tail) =
      .ok ((rowOf op).instr (fun k => tail.getD (k - 1) 0), tail.drop (rowOf op).operandBytes) :=
  if_pos h

/-- Everything the decoder can have read: an opcode byte and at least its row's operand bytes. -/
theorem decode_eq_ok {bytes rest : List Byte} {i : Instr} (h : decode bytes = .ok (i, rest)) :
    ∃ op tail, bytes = op :: tail ∧ (rowOf op).operandBytes ≤ tail.length ∧
      i = (rowOf op).instr (fun k => tail.getD (k - 1) 0) ∧ rest = tail.drop (rowOf op).operandBytes := by
  cases bytes with
  | nil => cases h
  | cons op tail =>
    rw [decode] at h
    split at h
    · next hlen =>
      obtain ⟨rfl, rfl⟩ := Prod.mk.inj (Except.ok.inj h)
      exact ⟨op, tail, rfl, hlen, rfl, rfl⟩
    · cases h

/-- The operand bytes read from a list are its first ones. -/
theorem Row.operands_getD (r : Row) {tail : List Byte} (h : r.operandBytes ≤ tail.length) :
    r.operands (fun k => tail.getD (k - 1) 0) = tail.take r.operandBytes := by
  apply List.ext_getElem
  · simp [h]
  · intro k hk _
    have hlt : k < tail.length := by simp at hk; omega
    simp [Row.operands, hlt]

/-- What a row selects is decoded from its bytes, whatever follows. -/
theorem decode_encode_rowOf_instr (op : Byte) (b : Nat → Byte) (rest : List Byte) :
    decode (encode ((rowOf op).instr b) ++ rest) = .ok ((rowOf op).instr b, rest) := by
  have hlen : ((rowOf op).operands b).length = (rowOf op).operandBytes := Row.operands_length _ b
  have hinstr : (rowOf op).instr (fun k => ((rowOf op).operands b ++ rest).getD (k - 1) 0) = (rowOf op).instr b := by
    refine (rowOf op).instr_congr fun k h1 hk => ?_
    have hlt : k - 1 < ((rowOf op).operands b).length := by omega
    rw [List.getD_append _ _ _ _ hlt, List.getD_eq_getElem _ _ hlt]
    simp [Row.operands, Nat.sub_add_cancel h1]
  rw [encode_rowOf_instr, List.cons_append, decode_cons (by simp), hinstr, ← hlen, List.drop_left]

theorem decode_encode {i : Instr} (hwf : i.wellFormed = true) (rest : List Byte) :
    decode (encode i ++ rest) = .ok (i, rest) := by
  obtain ⟨op, b, rfl⟩ := exists_rowOf_instr hwf
  exact decode_encode_rowOf_instr op b rest

theorem encode_decode {bytes rest : List Byte} {i : Instr} (h : decode bytes = .ok (i, rest)) :
    i.wellFormed = true ∧ encode i ++ rest = bytes := by
  obtain ⟨op, tail, rfl, hlen, rfl, rfl⟩ := decode_eq_ok h
  refine ⟨wellFormed_rowOf_instr op _, ?_⟩
  rw [encode_rowOf_instr, Row.operands_getD _ hlen, List.cons_append, List.take_append_drop]

/-- The decoder reads an undefined opcode exactly from a first byte above `$E0`, and it is that byte (`30_encoding.md` R81). -/
theorem decode_undefined_iff {op : Byte} {tail rest : List Byte} {i : Instr} (h : decode (op :: tail) = .ok (i, rest))
    (op' : Byte) : i = .undefined op' ↔ op' = op ∧ 0xE1 ≤ op.toNat := by
  obtain ⟨hwf, hbytes⟩ := encode_decode h
  constructor
  · rintro rfl
    obtain rfl : op' = op := (List.cons.inj hbytes).1
    exact ⟨rfl, of_decide_eq_true hwf⟩
  · rintro ⟨rfl, hop⟩
    rw [decode_cons (by simp [rowOf_undefined _ hop, Row.operandBytes]), rowOf_undefined _ hop] at h
    exact (Prod.mk.inj (Except.ok.inj h)).1.symm

theorem decodeHead_eq_some {bytes : List Byte} {i : Instr} (h : decodeHead bytes = some i) :
    ∃ rest, decode bytes = .ok (i, rest) := by
  unfold decodeHead at h
  split at h
  · next j rest hdecode =>
    obtain rfl := Option.some.inj h
    exact ⟨rest, hdecode⟩
  · cases h

end Sys2Proof

namespace Sys2Proof.Machine

open Sys2Proof.Claims

/-- A form, from its bytes and what it does: that the decoder reads it from its bytes holds for every well-formed
instruction. -/
theorem form_of_wellFormed {i : Instr} {bytes : List Byte} {post : State → State → Prop} (hwf : i.wellFormed = true)
    (henc : encode i = bytes) (hexec : ∀ s, ∃ t, exec i s = .next t ∧ post s t) : Form i bytes post :=
  ⟨henc, henc ▸ decode_encode hwf, hexec⟩

end Sys2Proof.Machine
end

section
/-! SUPPORT. The bytes a fetch reads, and bytes stored where the next step fetches (`30_encoding.md` R82, `92_eei_decisions.md`
D32). -/

namespace Sys2Proof.Machine

variable (s : State)

/-- The fetch reads the bytes of the fetched instruction and no byte past them. -/
theorem State.fetch_congr {t : State}
    (h : ∀ k, k < (encode s.fetch).length → t.memRead (t.nextAddr k) = s.memRead (s.nextAddr k)) : t.fetch = s.fetch := by
  have hlen : (encode s.fetch).length = s.fetchRow.operandBytes + 1 := encode_rowOf_length _ _
  have hop : t.memRead t.P = s.memRead s.P := by
    rw [← t.nextAddr_zero, ← s.nextAddr_zero]
    exact h 0 (by omega)
  have hrow : t.fetchRow = s.fetchRow := congrArg rowOf hop
  rw [State.fetch, State.fetch, hrow]
  exact s.fetchRow.instr_congr fun k _ hk => h k (by omega)

/-- Storing bytes from `a` leaves every byte that is none of theirs. -/
theorem State.storeBytes_memRead_other {vs : List Byte} {a b : Addr} (h : ∀ k < vs.length, b ≠ a + BitVec.ofNat 24 k) :
    (s.storeBytes a vs).memRead b = s.memRead b := by
  induction vs generalizing a s with
  | nil => rfl
  | cons v vs ih =>
    have hhead : b ≠ a := by simpa using h 0 (by simp)
    have htail : ∀ k < vs.length, b ≠ a + 1#24 + BitVec.ofNat 24 k := fun k hk => by
      rw [BitVec.add_assoc, ← BitVec.ofNat_add, Nat.add_comm]
      exact h (k + 1) (by simpa using hk)
    exact (ih (s.memWrite a v) htail).trans (s.memRead_memWrite_other a b v hhead)

/-- Bytes stored from `a` are read back, also where they straddle the top of memory. -/
theorem State.bytesAt_storeBytes {vs : List Byte} (a : Addr) (h : vs.length ≤ 2 ^ 24) :
    (s.storeBytes a vs).bytesAt vs.length a = vs := by
  induction vs generalizing a s with
  | nil => rfl
  | cons v vs ih =>
    rw [List.length_cons] at h
    have hhead : ((s.memWrite a v).storeBytes (a + 1#24) vs).memRead a = v := by
      rw [State.storeBytes_memRead_other _ fun k hk => by bv_omega, State.memRead_memWrite_self]
    exact congrArg₂ List.cons hhead (ih (s.memWrite a v) (a + 1#24) (by omega))

@[simp] theorem State.withFetchWord_run (nbits w : Nat) : (s.withFetchWord nbits w).run = .running := rfl

@[simp] theorem State.withFetchWord_P (nbits w : Nat) : (s.withFetchWord nbits w).P = s.P := by
  obtain ⟨-, -, -, -, -, -, hP, -⟩ := s.storeBytes_frame (tableBytes nbits w) s.P
  exact hP

/-- The placed word lies where the next step fetches. -/
theorem State.withFetchWord_bytesAt (nbits w : Nat) :
    (s.withFetchWord nbits w).bytesAt 4 (s.withFetchWord nbits w).P = tableBytes nbits w := by
  rw [State.withFetchWord_P]
  exact s.bytesAt_storeBytes (vs := tableBytes nbits w) s.P (by simp [tableBytes])

end Sys2Proof.Machine
end

section
/-! The statements of `30_encoding.md`. -/

namespace Sys2Proof.Machine

open Sys2Proof.Claims

/-- Settles O3: a well-formed instruction is what the row of its first byte selects, and that row is what the decoder reads. -/
theorem decodingAnEncodedInstructionGivesItBack : Obligations.DecodingAnEncodedInstructionGivesItBack :=
  fun _ rest hwf => decode_encode hwf rest

/-- Settles O4: what the decoder reads is what a row selects with the bytes after the opcode byte. -/
theorem encodingADecodedInstructionGivesTheBytesBack : Obligations.EncodingADecodedInstructionGivesTheBytesBack :=
  fun _ _ _ h => encode_decode h

/-- Settles O5: no row takes more than three operand bytes. -/
theorem fourBytesAlwaysHoldAnInstruction : Obligations.FourBytesAlwaysHoldAnInstruction := by
  intro b0 b1 b2 b3
  have hdecode := decode_cons (tail := [b1, b2, b3]) (rowOf b0).operandBytes_le
  have hlen := encode_rowOf_length b0 fun k => [b1, b2, b3].getD (k - 1) 0
  have hle := (rowOf b0).operandBytes_le
  refine ⟨_, _, hdecode, by omega, by omega, by rw [hlen, List.drop_succ_cons], ⟨?_, fun h => ?_⟩, fun op h => ?_⟩
  · rintro ⟨op, h⟩
    exact ((decode_undefined_iff hdecode op).1 h).2
  · exact ⟨b0, (decode_undefined_iff hdecode b0).2 ⟨rfl, h⟩⟩
  · exact ((decode_undefined_iff hdecode op).1 h).1

/-- Settles O6: the row is chosen by the opcode byte and reads its operand bytes alone. -/
theorem fetchReadsOnlyTheInstructionsBytes : Obligations.FetchReadsOnlyTheInstructionsBytes := by
  intro s t hP hbytes
  have haddr : ∀ k, t.nextAddr k = s.nextAddr k := fun k => by rw [State.nextAddr, State.nextAddr, hP]
  exact s.fetch_congr fun k hk => (haddr k).symm ▸ hbytes k hk

/-- Settles O7: the placed bytes are read back at P, and a running machine runs what they decode to. -/
theorem placedTableWordIsWhatTheNextStepRuns : Obligations.PlacedTableWordIsWhatTheNextStepRuns := by
  intro s nbits w i hword
  obtain ⟨rest, hdecode⟩ := decodeHead_eq_some hword
  rw [← s.withFetchWord_bytesAt] at hdecode
  exact step_of_decode (s.withFetchWord_run nbits w) hdecode

/-- Settles O1, by what the fetch reads from the four bytes at P. -/
theorem stepRunsTheDecodedInstruction : Obligations.StepRunsTheDecodedInstruction :=
  fun _ _ _ hrun hdecode => step_of_decode hrun hdecode

/-- Settles O2: each word is its instruction's encoding. -/
theorem writtenOutWordsDecode : Obligations.WrittenOutWordsDecode := by
  have word {i : Instr} {bytes : List Byte} (hwf : i.wellFormed = true) (henc : encode i = bytes) :
      decode bytes = .ok (i, []) := by
    rw [← henc, ← decode_encode hwf [], List.append_nil]
  exact ⟨word rfl rfl, word rfl rfl, word rfl rfl, word rfl rfl, word rfl rfl, word rfl rfl, word rfl rfl,
    word rfl rfl, word rfl rfl, word rfl rfl, word rfl rfl, word rfl rfl⟩

/-- Settles O52: raising the fault writes the run state alone. -/
theorem undefinedBytesFaultTheMachine : Obligations.UndefinedBytesFaultTheMachine :=
  fun op hop => form_of_wellFormed (decide_eq_true hop) rfl fun s =>
    ⟨s.raiseIllegalOpcode op, rfl, s.raiseIllegalOpcode_run op, exec_changesOnly (i := .undefined op) rfl⟩

end Sys2Proof.Machine
end

section
/-! SUPPORT. An instruction that goes on to the next one, as a form: its encoding, the advance of P and the frame hold for all
of them alike, so that a form of LDx, SETx or STx is what its operation leaves in one register, flag or byte. -/

namespace Sys2Proof.Machine

open Sys2Proof.Claims

/-- What the tables say of an instruction that does not leave the sequence: the encoding admits it, it is spelled by `bytes`,
and it may write `parts`. -/
structure InSequence (i : Instr) (bytes : List Byte) (parts : List Part) : Prop where
  wellFormed : i.wellFormed = true
  encode_eq : encode i = bytes
  staysInSequence : leavesSequence i = false
  parts_eq : mayWrite i = parts

/-- A form of an instruction in sequence, from what its operation does: the advance of P and the frame are given. -/
theorem InSequence.form {i : Instr} {bytes : List Byte} {parts : List Part} (hi : InSequence i bytes parts)
    {op : State → State} {post : State → State → Prop} (hexec : ∀ s, exec i s = .next (op s))
    (hpost : ∀ s, MovesOn bytes.length s (op s) ∧ ChangesOnly parts s (op s) → post s (op s)) : Form i bytes post := by
  obtain ⟨hwf, rfl, hseq, rfl⟩ := hi
  exact form_of_wellFormed hwf rfl fun s => ⟨op s, hexec s,
    hpost s ⟨instructionsInSequenceMoveToTheNext i s _ hseq (hexec s), exec_changesOnly (hexec s)⟩⟩

/-! ### Operands -/

theorem encodeTwo_join16 (op b1 b2 : Byte) : encodeTwo op (join16 b1 b2) = [op, b1, b2] := by
  rw [encodeTwo, byteOf16_join16_1, byteOf16_join16_0]

theorem encodeThree_join24 (op b1 b2 b3 : Byte) : encodeThree op (join24 b1 b2 b3) = [op, b1, b2, b3] := by
  rw [encodeThree, byteOf24_join24_2, byteOf24_join24_1, byteOf24_join24_0]

/-- Zero extension keeps the number (`30_encoding.md` R73). -/
theorem zext24_toNat {w : Nat} (h : w ≤ 24) (v : BitVec w) : (zext24 v).toNat = v.toNat :=
  BitVec.toNat_setWidth_of_le h

/-- The zero page lies at address 0 (`20_memory.md` R43, the spec's decision D3). -/
theorem zeroPageAddr_eq (a8 : Byte) : zeroPageAddr a8 = BitVec.ofNat 24 a8.toNat :=
  BitVec.eq_of_toNat_eq (by have := a8.isLt; rw [zeroPageAddr_toNat, BitVec.toNat_ofNat]; omega)

/-! ### LDx, SETx, STx -/

section

variable {i : Instr} {bytes : List Byte} {part : Part} {L : Nat}

theorem loadForm_of_load8 (r : Reg8) {ea : State → Addr} (hi : InSequence i bytes [part, .Z, .P])
    (hexec : ∀ s, exec i s = .next (s.load8 r (ea s) L)) : LoadForm i bytes (State.reg8 r) part ea :=
  hi.form hexec fun s hframe => by
    obtain ⟨hreg, -, -, hF, -⟩ := s.load8_spec r (ea s) L
    have hZ : (s.load8 r (ea s) L).F.Z = true ↔ s.memRead (ea s) = 0#8 := by
      rw [hF, Flags.withResult_Z, isZero_iff, BitVec.toNat_eq, BitVec.toNat_zero]
    exact ⟨hreg, hZ, hframe⟩

theorem loadForm_of_load8_zeroPage (r : Reg8) (a8 : Byte) (hi : InSequence i bytes [part, .Z, .P])
    (hexec : ∀ s, exec i s = .next (s.load8 r (zeroPageAddr a8) L)) :
    LoadForm i bytes (State.reg8 r) part fun _ => BitVec.ofNat 24 a8.toNat :=
  zeroPageAddr_eq a8 ▸ loadForm_of_load8 r hi hexec

theorem setForm_of_set8 (r : Reg8) {v : State → Byte} (hi : InSequence i bytes [part, .P])
    (hexec : ∀ s, exec i s = .next (s.set8 r (v s) L)) :
    SetForm i bytes (State.reg8 r) part fun s => (v s).toNat :=
  hi.form hexec fun s hframe => by
    obtain ⟨hreg, -⟩ := s.set8_spec r (v s) L
    exact ⟨congrArg BitVec.toNat hreg, hframe⟩

/-- SETS and SETD take an immediate only: the number `n` that its bytes spell. -/
theorem setForm_of_set24 (r : Reg24) {v : Addr} {n : Nat} (hi : InSequence i bytes [part, .P])
    (hexec : ∀ s, exec i s = .next (s.set24 r v L)) (hv : v.toNat = n) :
    SetForm i bytes (State.reg24 r) part fun _ => n :=
  hi.form hexec fun s hframe => by
    obtain ⟨hreg, -⟩ := s.set24_spec r v L
    exact ⟨(congrArg BitVec.toNat hreg).trans hv, hframe⟩

theorem storeForm_of_store8 (r : Reg8) {ea : State → Addr} (hi : InSequence i bytes [.mem, .P])
    (hexec : ∀ s, exec i s = .next (s.store8 r (ea s) L)) : StoreForm i bytes (State.reg8 r) ea :=
  hi.form hexec fun s hframe =>
    ⟨(s.store8_memRead r (ea s) L (ea s)).trans (if_pos rfl),
      fun a ha => (s.store8_memRead r (ea s) L a).trans (if_neg ha), hframe⟩

end

end Sys2Proof.Machine
end

section
/-! The statements of `40_nop_load_set_store.md`. -/

namespace Sys2Proof.Machine

open Sys2Proof.Claims

/-- Settles O23: each form is a load of its register, from S or from the zero page. -/
theorem loadsTakeTheByteAndItsZero : Obligations.LoadsTakeTheByteAndItsZero :=
  ⟨loadForm_of_load8 .A ⟨rfl, rfl, rfl, rfl⟩ fun _ => rfl,
    loadForm_of_load8 .B ⟨rfl, rfl, rfl, rfl⟩ fun _ => rfl,
    loadForm_of_load8 .C ⟨rfl, rfl, rfl, rfl⟩ fun _ => rfl,
    fun b1 => loadForm_of_load8_zeroPage .A b1 ⟨rfl, rfl, rfl, rfl⟩ fun _ => rfl,
    fun b1 => loadForm_of_load8_zeroPage .B b1 ⟨rfl, rfl, rfl, rfl⟩ fun _ => rfl,
    fun b1 => loadForm_of_load8_zeroPage .C b1 ⟨rfl, rfl, rfl, rfl⟩ fun _ => rfl⟩

/-- Settles O24: the nine byte forms set a register to a byte, the two 24-bit forms to the number their three bytes join to. -/
theorem setsOfWholeRegisters : Obligations.SetsOfWholeRegisters :=
  ⟨fun b1 => setForm_of_set8 .A (v := fun _ => b1) ⟨rfl, rfl, rfl, rfl⟩ fun _ => rfl,
    setForm_of_set8 .A (v := State.B) ⟨rfl, rfl, rfl, rfl⟩ fun _ => rfl,
    setForm_of_set8 .A (v := State.C) ⟨rfl, rfl, rfl, rfl⟩ fun _ => rfl,
    fun b1 => setForm_of_set8 .B (v := fun _ => b1) ⟨rfl, rfl, rfl, rfl⟩ fun _ => rfl,
    setForm_of_set8 .B (v := State.A) ⟨rfl, rfl, rfl, rfl⟩ fun _ => rfl,
    setForm_of_set8 .B (v := State.C) ⟨rfl, rfl, rfl, rfl⟩ fun _ => rfl,
    fun b1 => setForm_of_set8 .C (v := fun _ => b1) ⟨rfl, rfl, rfl, rfl⟩ fun _ => rfl,
    setForm_of_set8 .C (v := State.A) ⟨rfl, rfl, rfl, rfl⟩ fun _ => rfl,
    setForm_of_set8 .C (v := State.B) ⟨rfl, rfl, rfl, rfl⟩ fun _ => rfl,
    fun b1 b2 b3 => setForm_of_set24 .S ⟨rfl, encodeThree_join24 0x10#8 b1 b2 b3, rfl, rfl⟩ (fun _ => rfl)
      (join24_toNat b1 b2 b3),
    fun b1 b2 b3 => setForm_of_set24 .D ⟨rfl, encodeThree_join24 0x13#8 b1 b2 b3, rfl, rfl⟩ (fun _ => rfl)
      (join24_toNat b1 b2 b3)⟩

/-- Settles O25: the whole register is replaced, and zero extension keeps the number of the operand bytes. -/
theorem narrowSetsClearTheUpperBits : Obligations.NarrowSetsClearTheUpperBits := by
  have hbyte (b1 : Byte) : (zext24 b1).toNat = b1.toNat := zext24_toNat (by decide) b1
  have hword (b1 b2 : Byte) : (zext24 (join16 b1 b2)).toNat = num16 b1 b2 :=
    (zext24_toNat (by decide) _).trans (join16_toNat b1 b2)
  exact ⟨
    fun b1 b2 => setForm_of_set24 .S ⟨rfl, encodeTwo_join16 0x11#8 b1 b2, rfl, rfl⟩ (fun _ => rfl) (hword b1 b2),
    fun b1 => setForm_of_set24 .S ⟨rfl, rfl, rfl, rfl⟩ (fun _ => rfl) (hbyte b1),
    fun b1 b2 => setForm_of_set24 .D ⟨rfl, encodeTwo_join16 0x14#8 b1 b2, rfl, rfl⟩ (fun _ => rfl) (hword b1 b2),
    fun b1 => setForm_of_set24 .D ⟨rfl, rfl, rfl, rfl⟩ (fun _ => rfl) (hbyte b1)⟩

/-- Settles O26: each form is a store of its register, to D or to the zero page, which lies at address 0. -/
theorem storesWriteOneByteAndNoFlag : Obligations.StoresWriteOneByteAndNoFlag :=
  ⟨storeForm_of_store8 .A ⟨rfl, rfl, rfl, rfl⟩ fun _ => rfl,
    storeForm_of_store8 .B ⟨rfl, rfl, rfl, rfl⟩ fun _ => rfl,
    storeForm_of_store8 .C ⟨rfl, rfl, rfl, rfl⟩ fun _ => rfl,
    fun _ => rfl,
    fun _ => storeForm_of_store8 .A ⟨rfl, rfl, rfl, rfl⟩ fun _ => rfl,
    fun _ => storeForm_of_store8 .B ⟨rfl, rfl, rfl, rfl⟩ fun _ => rfl,
    fun _ => storeForm_of_store8 .C ⟨rfl, rfl, rfl, rfl⟩ fun _ => rfl,
    zeroPageAddr_toNat⟩

/-- Settles O22: NOP does what every instruction in sequence does, and nothing else. -/
theorem nopOnlyMovesOn : Obligations.NopOnlyMovesOn :=
  InSequence.form ⟨rfl, rfl, rfl, rfl⟩ (fun _ => rfl) fun _ hframe => hframe

end Sys2Proof.Machine
end

section
/-! SUPPORT. The numbers that additions, subtractions and their flags stand for (`41_arith.md` R140, R185), and INCx, DECx,
ADDx, SUBx as forms. Each argument is over the width, 8 or 24. -/

namespace Sys2Proof.Machine

open Sys2Proof.Claims

/-! ### Numbers -/

section

variable {w : Nat} (x v : BitVec w)

/-- The difference modulo `2^w`, as an integer. -/
theorem toNat_sub_intCast : ((x - v).toNat : Int) = ((x.toNat : Int) - (v.toNat : Int)) % 2 ^ w := by
  have hle : v.toNat ≤ 2 ^ w := v.isLt.le
  have hsum : ((2 ^ w - v.toNat + x.toNat : Nat) : Int) = (x.toNat : Int) - v.toNat + 2 ^ w := by
    push_cast [Nat.cast_sub hle]; ring
  rw [BitVec.toNat_sub, Int.natCast_mod, hsum]
  simp

theorem isZero_sub_iff : isZero (x - v) = true ↔ x.toNat = v.toNat := by
  rw [isZero_iff, ← BitVec.toNat_zero (w := w), ← BitVec.toNat_eq, ← BitVec.toNat_eq]
  exact sub_eq_zero

/-- A decrement reaches 0 from 1 alone: from 0 it wraps to the maximum. -/
theorem isZero_sub_one_iff (hw : 0 < w) : isZero (x - 1) = true ↔ x.toNat = 1 := by
  rw [isZero_sub_iff, BitVec.ofNat_eq_ofNat, BitVec.toNat_one hw]

/-- An increment reaches 0 from the maximum alone. -/
theorem decCarry_add_one_iff : decCarry (x + 1) = true ↔ x.toNat = 2 ^ w - 1 := by
  rw [decCarry_iff, ← BitVec.toNat_zero (w := w), ← BitVec.toNat_eq, ← BitVec.toNat_allOnes, ← BitVec.toNat_eq,
    ← BitVec.neg_one_eq_allOnes]
  exact add_eq_zero_iff_eq_neg

end

/-- Zero extension keeps the number of an operand byte. -/
theorem zext24_byte_toNat (b : Byte) : (zext24 b).toNat = b.toNat := zext24_toNat (by decide) b

/-- Zero extension keeps the number that two operand bytes spell. -/
theorem zext24_join16_toNat (b1 b2 : Byte) : (zext24 (join16 b1 b2)).toNat = num16 b1 b2 :=
  (zext24_toNat (by decide) _).trans (join16_toNat b1 b2)

/-! ### P below the top of memory -/

theorem advances_of_movesOn {n : Nat} {s t : State} (h : MovesOn n s t) : Advances n s t :=
  fun hlt => h.trans (Nat.mod_eq_of_lt hlt)

/-! ### INCx, DECx, ADDx, SUBx -/

section

variable {i : Instr} {bytes : List Byte} {part : Part} {w : Nat} {get v : State → BitVec w} {n : State → Nat}
  {op : State → State}

theorem incForm_of_withInc (hi : InSequence i bytes [part, .carry, .P]) (hexec : ∀ s, exec i s = .next (op s))
    (hop : ∀ s, get (op s) = get s + 1 ∧ (op s).F = s.F.withInc (get s)) : IncForm i bytes get part :=
  hi.form hexec fun s ⟨hP, hframe⟩ => by
    obtain ⟨hreg, hF⟩ := hop s
    have hsum : (get (op s)).toNat = ((get s).toNat + 1) % 2 ^ w := by simp [hreg]
    have hcarry : (op s).F.C = true ↔ (get s).toNat = 2 ^ w - 1 := by rw [hF, Flags.withInc_C, incCarry_iff]
    exact ⟨hsum, hcarry, advances_of_movesOn hP, hframe⟩

theorem decForm_of_withDec (hw : 0 < w) (hi : InSequence i bytes [part, .carry, .Z, .P])
    (hexec : ∀ s, exec i s = .next (op s))
    (hop : ∀ s, get (op s) = get s - 1 ∧ (op s).F = s.F.withDec (get s)) : DecForm i bytes get part :=
  hi.form hexec fun s hframe => by
    obtain ⟨hreg, hF⟩ := hop s
    have hdiff : (get (op s)).toNat = ((get s).toNat + (2 ^ w - 1)) % 2 ^ w := by
      rw [hreg, BitVec.toNat_sub, BitVec.ofNat_eq_ofNat, BitVec.toNat_one hw, Nat.add_comm]
    have hcarry : (op s).F.C = true ↔ (get s).toNat = 0 := by rw [hF, Flags.withDec_C, decCarry_iff]
    have hZ : (op s).F.Z = true ↔ (get s).toNat = 1 := by rw [hF, Flags.withDec_Z, isZero_sub_one_iff _ hw]
    exact ⟨hdiff, hcarry, hZ, hframe⟩

/-- The operand is the number `n s`, of which `v s` is the word of the register's width. -/
theorem addForm_of_withAdd (hi : InSequence i bytes [part, .carry, .P]) (hexec : ∀ s, exec i s = .next (op s))
    (hop : ∀ s, get (op s) = get s + v s ∧ (op s).F = s.F.withAdd (get s) (v s))
    (hv : ∀ s, (v s).toNat = n s) : AddForm i bytes get part n :=
  hi.form hexec fun s hframe => by
    obtain ⟨hreg, hF⟩ := hop s
    have hsum : (get (op s)).toNat = ((get s).toNat + n s) % 2 ^ w := by rw [hreg, BitVec.toNat_add, hv]
    have hcarry : (op s).F.C = true ↔ 2 ^ w - 1 < (get s).toNat + n s := by
      rw [hF, Flags.withAdd_C, addCarry_iff, hv]
    exact ⟨hsum, hcarry, hframe⟩

theorem subForm_of_withSub (hi : InSequence i bytes [part, .carry, .Z, .P]) (hexec : ∀ s, exec i s = .next (op s))
    (hop : ∀ s, get (op s) = get s - v s ∧ (op s).F = s.F.withSub (get s) (v s))
    (hv : ∀ s, (v s).toNat = n s) : SubForm i bytes get part n :=
  hi.form hexec fun s hframe => by
    obtain ⟨hreg, hF⟩ := hop s
    have hdiff : ((get (op s)).toNat : Int) = ((get s).toNat - n s : Int) % 2 ^ w := by
      rw [hreg, toNat_sub_intCast, hv]
    have hborrow : (op s).F.C = true ↔ (get s).toNat < n s := by rw [hF, Flags.withSub_C, subCarry_iff, hv]
    have hZ : (op s).F.Z = true ↔ (get s).toNat = n s := by rw [hF, Flags.withSub_Z, isZero_sub_iff, hv]
    exact ⟨hdiff, hborrow, hZ, hframe⟩

end

section

variable {i : Instr} {bytes : List Byte} {part : Part} {L : Nat} (r : Reg8) {v : State → Byte}

theorem incForm_of_inc8 (hi : InSequence i bytes [part, .carry, .P]) (hexec : ∀ s, exec i s = .next (s.inc8 r)) :
    IncForm i bytes (State.reg8 r) part :=
  incForm_of_withInc hi hexec fun s => by
    obtain ⟨hreg, -, -, hF, -⟩ := s.inc8_spec r
    exact ⟨hreg, hF⟩

theorem decForm_of_dec8 (hi : InSequence i bytes [part, .carry, .Z, .P]) (hexec : ∀ s, exec i s = .next (s.dec8 r)) :
    DecForm i bytes (State.reg8 r) part :=
  decForm_of_withDec (by decide) hi hexec fun s => by
    obtain ⟨hreg, -, -, hF, -⟩ := s.dec8_spec r
    exact ⟨hreg, hF⟩

theorem addForm_of_add8 (hi : InSequence i bytes [part, .carry, .P])
    (hexec : ∀ s, exec i s = .next (s.add8 r (v s) L)) :
    AddForm i bytes (State.reg8 r) part fun s => (v s).toNat :=
  addForm_of_withAdd (v := v) hi hexec (fun s => by
    obtain ⟨hreg, -, -, hF, -⟩ := s.add8_spec r (v s) L
    exact ⟨hreg, hF⟩) fun _ => rfl

theorem subForm_of_sub8 (hi : InSequence i bytes [part, .carry, .Z, .P])
    (hexec : ∀ s, exec i s = .next (s.sub8 r (v s) L)) :
    SubForm i bytes (State.reg8 r) part fun s => (v s).toNat :=
  subForm_of_withSub (v := v) hi hexec (fun s => by
    obtain ⟨hreg, -, -, hF, -⟩ := s.sub8_spec r (v s) L
    exact ⟨hreg, hF⟩) fun _ => rfl

end

section

variable {i : Instr} {bytes : List Byte} {part : Part} {L : Nat} (r : Reg24) {v : State → Addr} {n : State → Nat}

theorem incForm_of_inc24 (hi : InSequence i bytes [part, .carry, .P]) (hexec : ∀ s, exec i s = .next (s.inc24 r)) :
    IncForm i bytes (State.reg24 r) part :=
  incForm_of_withInc hi hexec fun s => by
    obtain ⟨hreg, -, -, hF, -⟩ := s.inc24_spec r
    exact ⟨hreg, hF⟩

theorem decForm_of_dec24 (hi : InSequence i bytes [part, .carry, .Z, .P]) (hexec : ∀ s, exec i s = .next (s.dec24 r)) :
    DecForm i bytes (State.reg24 r) part :=
  decForm_of_withDec (by decide) hi hexec fun s => by
    obtain ⟨hreg, -, -, hF, -⟩ := s.dec24_spec r
    exact ⟨hreg, hF⟩

theorem addForm_of_add24 (hi : InSequence i bytes [part, .carry, .P])
    (hexec : ∀ s, exec i s = .next (s.add24 r (v s) L)) (hv : ∀ s, (v s).toNat = n s) :
    AddForm i bytes (State.reg24 r) part n :=
  addForm_of_withAdd hi hexec (fun s => by
    obtain ⟨hreg, -, -, hF, -⟩ := s.add24_spec r (v s) L
    exact ⟨hreg, hF⟩) hv

theorem subForm_of_sub24 (hi : InSequence i bytes [part, .carry, .Z, .P])
    (hexec : ∀ s, exec i s = .next (s.sub24 r (v s) L)) (hv : ∀ s, (v s).toNat = n s) :
    SubForm i bytes (State.reg24 r) part n :=
  subForm_of_withSub hi hexec (fun s => by
    obtain ⟨hreg, -, -, hF, -⟩ := s.sub24_spec r (v s) L
    exact ⟨hreg, hF⟩) hv

end

/-! ### INCx then DECx -/

/-- The writes of INCx then DECx on a register that holds `x`: the register is not among them. -/
def Writes.incDec {w : Nat} (x : BitVec w) (s : State) : Writes where
  carry := some (decCarry (x + 1))
  Z := some (isZero x)
  P := some (s.nextAddr 2)

theorem State.dec8_inc8 (s : State) (r : Reg8) : (s.inc8 r).dec8 r = (Writes.incDec (s.reg8 r) s).apply s := by
  cases r <;> simp [State.inc8, State.dec8, State.setReg8, State.setFlags, State.advance, State.setP, State.nextAddr,
    Flags.withInc, Flags.withDec, Writes.apply, Writes.incDec, BitVec.add_assoc]

theorem State.dec24_inc24 (s : State) (r : Reg24) : (s.inc24 r).dec24 r = (Writes.incDec (s.reg24 r) s).apply s := by
  cases r <;> simp [State.inc24, State.dec24, State.setReg24, State.setFlags, State.advance, State.setP, State.nextAddr,
    Flags.withInc, Flags.withDec, Writes.apply, Writes.incDec, BitVec.add_assoc]

theorem Writes.incDec_apply {w : Nat} (x : BitVec w) (s : State) :
    (((incDec x s).apply s).F.Z = true ↔ x.toNat = 0) ∧ (((incDec x s).apply s).F.C = true ↔ x.toNat = 2 ^ w - 1) ∧
      ChangesOnly [.carry, .Z, .P] s ((incDec x s).apply s) :=
  ⟨isZero_iff x, decCarry_add_one_iff x, (incDec x s).apply_changesOnly s⟩

end Sys2Proof.Machine
end

section
/-! The statements of `41_arith.md`. -/

namespace Sys2Proof.Machine

open Sys2Proof.Claims

/-- Settles O27: three increments of a byte, two of an address. -/
theorem incrementsWrapToZeroWithCarry : Obligations.IncrementsWrapToZeroWithCarry :=
  ⟨incForm_of_inc8 .A ⟨rfl, rfl, rfl, rfl⟩ fun _ => rfl,
    incForm_of_inc8 .B ⟨rfl, rfl, rfl, rfl⟩ fun _ => rfl,
    incForm_of_inc8 .C ⟨rfl, rfl, rfl, rfl⟩ fun _ => rfl,
    incForm_of_inc24 .S ⟨rfl, rfl, rfl, rfl⟩ fun _ => rfl,
    incForm_of_inc24 .D ⟨rfl, rfl, rfl, rfl⟩ fun _ => rfl⟩

/-- Settles O28: three decrements of a byte, two of an address. -/
theorem decrementsWrapToMaximumWithCarry : Obligations.DecrementsWrapToMaximumWithCarry :=
  ⟨decForm_of_dec8 .A ⟨rfl, rfl, rfl, rfl⟩ fun _ => rfl,
    decForm_of_dec8 .B ⟨rfl, rfl, rfl, rfl⟩ fun _ => rfl,
    decForm_of_dec8 .C ⟨rfl, rfl, rfl, rfl⟩ fun _ => rfl,
    decForm_of_dec24 .S ⟨rfl, rfl, rfl, rfl⟩ fun _ => rfl,
    decForm_of_dec24 .D ⟨rfl, rfl, rfl, rfl⟩ fun _ => rfl⟩

/-- Settles O29: each form adds the operand byte or another register. -/
theorem byteAdditionsWrapWithCarry : Obligations.ByteAdditionsWrapWithCarry :=
  ⟨fun b1 => addForm_of_add8 .A (v := fun _ => b1) ⟨rfl, rfl, rfl, rfl⟩ fun _ => rfl,
    addForm_of_add8 .A (v := State.B) ⟨rfl, rfl, rfl, rfl⟩ fun _ => rfl,
    addForm_of_add8 .A (v := State.C) ⟨rfl, rfl, rfl, rfl⟩ fun _ => rfl,
    fun b1 => addForm_of_add8 .B (v := fun _ => b1) ⟨rfl, rfl, rfl, rfl⟩ fun _ => rfl,
    addForm_of_add8 .B (v := State.A) ⟨rfl, rfl, rfl, rfl⟩ fun _ => rfl,
    addForm_of_add8 .B (v := State.C) ⟨rfl, rfl, rfl, rfl⟩ fun _ => rfl,
    fun b1 => addForm_of_add8 .C (v := fun _ => b1) ⟨rfl, rfl, rfl, rfl⟩ fun _ => rfl,
    addForm_of_add8 .C (v := State.A) ⟨rfl, rfl, rfl, rfl⟩ fun _ => rfl,
    addForm_of_add8 .C (v := State.B) ⟨rfl, rfl, rfl, rfl⟩ fun _ => rfl⟩

/-- Settles O30: zero extension keeps the number of the operand. -/
theorem addressAdditionsWrapWithCarry : Obligations.AddressAdditionsWrapWithCarry :=
  ⟨fun b1 b2 => addForm_of_add24 .S ⟨rfl, encodeTwo_join16 0x2F#8 b1 b2, rfl, rfl⟩ (fun _ => rfl)
      fun _ => zext24_join16_toNat b1 b2,
    fun b1 => addForm_of_add24 .S ⟨rfl, rfl, rfl, rfl⟩ (fun _ => rfl) fun _ => zext24_byte_toNat b1,
    addForm_of_add24 .S ⟨rfl, rfl, rfl, rfl⟩ (fun _ => rfl) fun s => zext24_byte_toNat s.A,
    fun b1 b2 => addForm_of_add24 .D ⟨rfl, encodeTwo_join16 0x32#8 b1 b2, rfl, rfl⟩ (fun _ => rfl)
      fun _ => zext24_join16_toNat b1 b2,
    fun b1 => addForm_of_add24 .D ⟨rfl, rfl, rfl, rfl⟩ (fun _ => rfl) fun _ => zext24_byte_toNat b1,
    addForm_of_add24 .D ⟨rfl, rfl, rfl, rfl⟩ (fun _ => rfl) fun s => zext24_byte_toNat s.A⟩

/-- Settles O31: each form subtracts the operand byte or another register. -/
theorem byteSubtractionsBorrow : Obligations.ByteSubtractionsBorrow :=
  ⟨fun b1 => subForm_of_sub8 .A (v := fun _ => b1) ⟨rfl, rfl, rfl, rfl⟩ fun _ => rfl,
    subForm_of_sub8 .A (v := State.B) ⟨rfl, rfl, rfl, rfl⟩ fun _ => rfl,
    subForm_of_sub8 .A (v := State.C) ⟨rfl, rfl, rfl, rfl⟩ fun _ => rfl,
    fun b1 => subForm_of_sub8 .B (v := fun _ => b1) ⟨rfl, rfl, rfl, rfl⟩ fun _ => rfl,
    subForm_of_sub8 .B (v := State.A) ⟨rfl, rfl, rfl, rfl⟩ fun _ => rfl,
    subForm_of_sub8 .B (v := State.C) ⟨rfl, rfl, rfl, rfl⟩ fun _ => rfl,
    fun b1 => subForm_of_sub8 .C (v := fun _ => b1) ⟨rfl, rfl, rfl, rfl⟩ fun _ => rfl,
    subForm_of_sub8 .C (v := State.A) ⟨rfl, rfl, rfl, rfl⟩ fun _ => rfl,
    subForm_of_sub8 .C (v := State.B) ⟨rfl, rfl, rfl, rfl⟩ fun _ => rfl⟩

/-- Settles O32: zero extension keeps the number of the operand, so the borrow and Z compare it with all 24 bits. -/
theorem addressSubtractionsBorrow : Obligations.AddressSubtractionsBorrow :=
  ⟨fun b1 b2 => subForm_of_sub24 .S ⟨rfl, encodeTwo_join16 0x3E#8 b1 b2, rfl, rfl⟩ (fun _ => rfl)
      fun _ => zext24_join16_toNat b1 b2,
    fun b1 => subForm_of_sub24 .S ⟨rfl, rfl, rfl, rfl⟩ (fun _ => rfl) fun _ => zext24_byte_toNat b1,
    subForm_of_sub24 .S ⟨rfl, rfl, rfl, rfl⟩ (fun _ => rfl) fun s => zext24_byte_toNat s.A,
    fun b1 b2 => subForm_of_sub24 .D ⟨rfl, encodeTwo_join16 0x41#8 b1 b2, rfl, rfl⟩ (fun _ => rfl)
      fun _ => zext24_join16_toNat b1 b2,
    fun b1 => subForm_of_sub24 .D ⟨rfl, rfl, rfl, rfl⟩ (fun _ => rfl) fun _ => zext24_byte_toNat b1,
    subForm_of_sub24 .D ⟨rfl, rfl, rfl, rfl⟩ (fun _ => rfl) fun s => zext24_byte_toNat s.A⟩

/-- Settles O56: of the two instructions' writes only the flags and P are left. -/
theorem incrementThenDecrementRestores : Obligations.IncrementThenDecrementRestores :=
  fun s =>
    ⟨⟨_, congrArg Host.Outcome.next (s.dec8_inc8 .A), Writes.incDec_apply s.A s⟩,
      ⟨_, congrArg Host.Outcome.next (s.dec8_inc8 .B), Writes.incDec_apply s.B s⟩,
      ⟨_, congrArg Host.Outcome.next (s.dec8_inc8 .C), Writes.incDec_apply s.C s⟩,
      ⟨_, congrArg Host.Outcome.next (s.dec24_inc24 .S), Writes.incDec_apply s.S s⟩,
      ⟨_, congrArg Host.Outcome.next (s.dec24_inc24 .D), Writes.incDec_apply s.D s⟩⟩

end Sys2Proof.Machine
end

section
/-! SUPPORT. The numbers that shifts, inversions and bit tests stand for (`42_logic_shift.md` R190, R224, R228, R232), TSTx,
ANDx, ORx, XORx, NOTx, SHLx, SHRx as forms, and what sequences of them leave. -/

namespace Sys2Proof.Machine

open Sys2Proof.Claims

/-! ### Numbers and bits -/

/-- An operand embedded in the opcode byte is counted up from the base of its range (`30_encoding.md` R77, R78). -/
theorem opcode_add_embedded (base k : Nat) :
    [BitVec.ofNat 8 base + BitVec.ofNat 8 k] = [BitVec.ofNat 8 (base + k)] := by
  rw [BitVec.ofNat_add]

/-- The check on a shift count (`30_encoding.md` R78). -/
theorem shiftCount_wellFormed {n : Nat} (hpos : 1 ≤ n) (hmax : n ≤ 8) : (decide (1 ≤ n) && decide (n ≤ 8)) = true := by
  simp [hpos, hmax]

theorem tstZero_iff (x : Byte) (ib : Nat) : tstZero x ib = true ↔ x.toNat / 2 ^ ib % 2 = 0 := by
  rw [tstZero, ← BitVec.testBit_toNat, Nat.testBit_eq_decide_div_mod_eq]
  simp

section

variable {w : Nat} (x : BitVec w)

theorem isZero_iff_getLsbD : isZero x = true ↔ ∀ k, k < w → x.getLsbD k = false := by
  rw [isZero_iff, ← BitVec.toNat_zero (w := w), ← BitVec.toNat_eq, BitVec.eq_of_getLsbD_eq_iff]
  simp

theorem toNat_shiftLeft_eq_mul (n : Nat) : (x <<< n).toNat = x.toNat * 2 ^ n % 2 ^ w := by
  rw [BitVec.toNat_shiftLeft, Nat.shiftLeft_eq]

theorem toNat_ushiftRight_eq_div (n : Nat) : (x >>> n).toNat = x.toNat / 2 ^ n := by
  rw [BitVec.toNat_ushiftRight, Nat.shiftRight_eq_div_pow]

theorem isZero_ushiftRight_iff (n : Nat) : isZero (x >>> n) = true ↔ x.toNat < 2 ^ n := by
  rw [isZero_iff, toNat_ushiftRight_eq_div, Nat.div_eq_zero_iff_lt (Nat.two_pow_pos n)]

/-- A left shift loses the top `n` bits, and the right shift puts the others back in their places. -/
theorem toNat_shiftLeft_ushiftRight {n : Nat} (h : n ≤ w) : (x <<< n >>> n).toNat = x.toNat % 2 ^ (w - n) :=
  calc (x <<< n >>> n).toNat
      _ = x.toNat * 2 ^ n % 2 ^ w / 2 ^ n := by rw [toNat_ushiftRight_eq_div, toNat_shiftLeft_eq_mul]
      _ = x.toNat * 2 ^ n % (2 ^ (w - n) * 2 ^ n) / 2 ^ n := by rw [← pow_add, Nat.sub_add_cancel h]
      _ = x.toNat % 2 ^ (w - n) := by rw [Nat.mul_mod_mul_right, Nat.mul_div_cancel _ (Nat.two_pow_pos n)]

end

/-- NOTx inverts by an exclusive OR with `$FF`, which is the distance to 255. -/
theorem toNat_xor_ones (x : Byte) : (x ^^^ 0xFF#8).toNat = 255 - x.toNat := by
  have hnot : x ^^^ 0xFF#8 = ~~~x := BitVec.xor_allOnes
  rw [hnot, BitVec.toNat_not]

theorem isZero_xor_ones_iff (x : Byte) : isZero (x ^^^ 0xFF#8) = true ↔ x.toNat = 255 := by
  have hlt := x.isLt
  rw [isZero_iff, toNat_xor_ones]
  omega

/-! ### What a logic instruction leaves -/

section

variable (s : State) (r : Reg8)

@[simp] theorem State.result8_reg8_same (res : Byte) (L : Nat) : (s.result8 r res L).reg8 r = res := by
  obtain ⟨hreg, -⟩ := s.result8_spec r res L
  exact hreg

theorem State.result8_reg8_other {r q : Reg8} (h : q ≠ r) (res : Byte) (L : Nat) :
    (s.result8 r res L).reg8 q = s.reg8 q := by
  obtain ⟨-, hother, -⟩ := s.result8_spec r res L
  exact hother q h

@[simp] theorem State.result8_Z (res : Byte) (L : Nat) : (s.result8 r res L).F.Z = isZero res := by
  obtain ⟨-, -, -, hF, -⟩ := s.result8_spec r res L
  rw [hF, Flags.withResult_Z]

theorem State.result8_Z_iff (res : Byte) (L : Nat) :
    (s.result8 r res L).F.Z = true ↔ ((s.result8 r res L).reg8 r).toNat = 0 := by
  rw [State.result8_reg8_same, State.result8_Z, isZero_iff]

@[simp] theorem State.shl8_reg8_same (n : Nat) : (s.shl8 r n).reg8 r = s.reg8 r <<< n := by
  obtain ⟨hreg, -⟩ := s.shl8_spec r n
  exact hreg

@[simp] theorem State.shr8_reg8_same (n : Nat) : (s.shr8 r n).reg8 r = s.reg8 r >>> n :=
  s.result8_reg8_same r _ 1

end

/-! ### TSTx, ANDx, ORx, XORx, NOTx, SHLx, SHRx -/

section

variable {i : Instr} {bytes : List Byte} {part : Part} {L : Nat} (r : Reg8) {v : State → Byte}

theorem testForm_of_tst8 {ib : Nat} (hi : InSequence i bytes [.Z, .P]) (hexec : ∀ s, exec i s = .next (s.tst8 r ib)) :
    TestForm i bytes (State.reg8 r) ib :=
  hi.form hexec fun s hframe => by
    obtain ⟨-, -, hF, -⟩ := s.tst8_spec r ib
    have hZ : (s.tst8 r ib).F.Z = true ↔ (s.reg8 r).toNat / 2 ^ ib % 2 = 0 := by
      rw [hF, Flags.withTst_Z, tstZero_iff]
    exact ⟨hZ, hframe⟩

/-- A byte operation `op` that works bit by bit, as `bit`, is a logic operation. -/
theorem logicForm_of_result8 {op : Byte → Byte → Byte} {bit : Bool → Bool → Bool}
    (hbit : ∀ x y k, (op x y).getLsbD k = bit (x.getLsbD k) (y.getLsbD k)) (hi : InSequence i bytes [part, .Z, .P])
    (hexec : ∀ s, exec i s = .next (s.result8 r (op (s.reg8 r) (v s)) L)) :
    LogicForm i bytes (State.reg8 r) part v bit :=
  hi.form hexec fun s ⟨hP, hframe⟩ => by
    refine ⟨fun k _ => ?_, ?_, advances_of_movesOn hP, hframe⟩
    · rw [State.result8_reg8_same, hbit]
    · simp only [State.result8_Z, isZero_iff_getLsbD, hbit]

theorem andForm_of_result8 (hi : InSequence i bytes [part, .Z, .P])
    (hexec : ∀ s, exec i s = .next (s.result8 r (s.reg8 r &&& v s) L)) :
    LogicForm i bytes (State.reg8 r) part v Bool.and :=
  logicForm_of_result8 r (fun _ _ _ => BitVec.getLsbD_and) hi hexec

theorem orForm_of_result8 (hi : InSequence i bytes [part, .Z, .P])
    (hexec : ∀ s, exec i s = .next (s.result8 r (s.reg8 r ||| v s) L)) :
    LogicForm i bytes (State.reg8 r) part v Bool.or :=
  logicForm_of_result8 r (fun _ _ _ => BitVec.getLsbD_or) hi hexec

theorem xorForm_of_result8 (hi : InSequence i bytes [part, .Z, .P])
    (hexec : ∀ s, exec i s = .next (s.result8 r (s.reg8 r ^^^ v s) L)) :
    LogicForm i bytes (State.reg8 r) part v Bool.xor :=
  logicForm_of_result8 r (fun _ _ _ => BitVec.getLsbD_xor) hi hexec

theorem notForm_of_result8 (hi : InSequence i bytes [part, .Z, .P])
    (hexec : ∀ s, exec i s = .next (s.result8 r (s.reg8 r ^^^ 0xFF#8) L)) :
    Form i bytes fun s t => (t.reg8 r).toNat = 255 - (s.reg8 r).toNat ∧ (t.F.Z = true ↔ (s.reg8 r).toNat = 255) ∧
      Advances bytes.length s t ∧ ChangesOnly [part, .Z, .P] s t :=
  hi.form hexec fun s ⟨hP, hframe⟩ => by
    refine ⟨?_, ?_, advances_of_movesOn hP, hframe⟩
    · rw [State.result8_reg8_same, toNat_xor_ones]
    · rw [State.result8_Z, isZero_xor_ones_iff]

theorem shiftLeftForm_of_shl8 {n : Nat} (hi : InSequence i bytes [part, .P])
    (hexec : ∀ s, exec i s = .next (s.shl8 r n)) : ShiftLeftForm i bytes (State.reg8 r) part n :=
  hi.form hexec fun s hframe => by
    have hprod : ((s.shl8 r n).reg8 r).toNat = (s.reg8 r).toNat * 2 ^ n % 2 ^ 8 := by
      rw [State.shl8_reg8_same, toNat_shiftLeft_eq_mul]
    exact ⟨hprod, hframe⟩

theorem shiftRightForm_of_shr8 {n : Nat} (hi : InSequence i bytes [part, .Z, .P])
    (hexec : ∀ s, exec i s = .next (s.shr8 r n)) : ShiftRightForm i bytes (State.reg8 r) part n :=
  hi.form hexec fun s hframe => by
    refine ⟨?_, ?_, hframe⟩
    · rw [State.shr8_reg8_same, toNat_ushiftRight_eq_div]
    · rw [State.shr8, State.result8_Z, isZero_ushiftRight_iff]

end

/-! ### Shifts one after the other, and by 8 -/

section

variable (s : State) (r : Reg8) {n : Nat}

theorem State.shr8_shl8_reg8 (h : n ≤ 8) :
    (((s.shl8 r n).shr8 r n).reg8 r).toNat = (s.reg8 r).toNat % 2 ^ (8 - n) := by
  rw [State.shr8_reg8_same, State.shl8_reg8_same, toNat_shiftLeft_ushiftRight _ h]

theorem State.shl8_eight_reg8 : ((s.shl8 r 8).reg8 r).toNat = 0 := by
  rw [State.shl8_reg8_same, BitVec.shiftLeft_eq_zero le_rfl, BitVec.toNat_zero]

theorem State.shr8_eight_reg8 : ((s.shr8 r 8).reg8 r).toNat = 0 := by
  rw [State.shr8_reg8_same, BitVec.ushiftRight_eq_zero le_rfl, BitVec.toNat_zero]

end

/-! ### The frame of a sequence -/

section

variable {s t u : State} {ps qs : List Part}

theorem changesOnly_refl (s : State) (ps : List Part) : ChangesOnly ps s s := by
  intro p _
  cases p with
  | mem => exact fun _ => rfl
  | _ => rfl

theorem changesOnly_trans (hst : ChangesOnly ps s t) (htu : ChangesOnly ps t u) : ChangesOnly ps s u := by
  intro p hp
  have hs := hst p hp
  have ht := htu p hp
  cases p with
  | mem => exact fun a => (ht a).trans (hs a)
  | _ => exact Eq.trans ht hs

theorem changesOnly_mono (h : ChangesOnly ps s t) (hsub : ps ⊆ qs) : ChangesOnly qs s t :=
  fun p hp => h p fun hmem => hp (hsub hmem)

/-- A part that may be written, but is back at its value, is not changed. -/
theorem changesOnly_of_restored {p : Part} (h : ChangesOnly (p :: ps) s t) (hp : p.Same s t) : ChangesOnly ps s t := by
  intro q hq
  by_cases hqp : q = p
  · exact hqp ▸ hp
  · exact h q (by simp [hqp, hq])

theorem execs_cons_eq_next {i : Instr} {is : List Instr} (h : execs (i :: is) s = .next u) :
    ∃ t, exec i s = .next t ∧ execs is t = .next u := by
  rw [execs] at h
  split at h
  next t ht => exact ⟨t, ht, h⟩
  all_goals simp at h

/-- A sequence changes only what its instructions may write. -/
theorem execs_changesOnly {is : List Instr} (hparts : ∀ i ∈ is, mayWrite i ⊆ ps) (h : execs is s = .next t) :
    ChangesOnly ps s t := by
  induction is generalizing s with
  | nil =>
    obtain rfl : s = t := Host.Outcome.next.inj h
    exact changesOnly_refl s ps
  | cons i is ih =>
    obtain ⟨m, hhead, htail⟩ := execs_cons_eq_next h
    have hfirst : ChangesOnly ps s m := changesOnly_mono (exec_changesOnly hhead) (hparts i (by simp))
    exact changesOnly_trans hfirst (ih (fun j hj => hparts j (by simp [hj])) htail)

end

/-! ### XORx three times, NOTx twice -/

/-- XORx with another register. -/
def State.xor8 (r q : Reg8) (s : State) : State := s.result8 r (s.reg8 r ^^^ s.reg8 q) 1

/-- NOTx. -/
def State.not8 (r : Reg8) (s : State) : State := s.result8 r (s.reg8 r ^^^ 0xFF#8) 1

section

variable (s : State)

theorem State.xor8_reg8_same (r q : Reg8) : (s.xor8 r q).reg8 r = s.reg8 r ^^^ s.reg8 q :=
  s.result8_reg8_same r _ 1

theorem State.xor8_reg8_other {r q : Reg8} (h : q ≠ r) : (s.xor8 r q).reg8 q = s.reg8 q :=
  s.result8_reg8_other h _ 1

/-- The second exclusive OR takes the old `r` out of the sum, the third one takes the old `q` out of it. -/
theorem State.xor8_exchange {r q : Reg8} (h : q ≠ r) :
    (((s.xor8 r q).xor8 q r).xor8 r q).reg8 r = s.reg8 q ∧ (((s.xor8 r q).xor8 q r).xor8 r q).reg8 q = s.reg8 r := by
  have hsecond : ((s.xor8 r q).xor8 q r).reg8 q = s.reg8 r := by
    rw [State.xor8_reg8_same, State.xor8_reg8_same, State.xor8_reg8_other s h, BitVec.xor_comm, xor_cancel_right]
  have hthird : (((s.xor8 r q).xor8 q r).xor8 r q).reg8 r = s.reg8 q := by
    rw [State.xor8_reg8_same, hsecond, State.xor8_reg8_other _ h.symm, State.xor8_reg8_same,
      BitVec.xor_comm (s.reg8 r), xor_cancel_right]
  exact ⟨hthird, (State.xor8_reg8_other _ h).trans hsecond⟩

theorem State.xor8_Z_iff (r q : Reg8) : (s.xor8 r q).F.Z = true ↔ ((s.xor8 r q).reg8 r).toNat = 0 :=
  s.result8_Z_iff r _ 1

theorem State.not8_reg8_same (r : Reg8) : (s.not8 r).reg8 r = s.reg8 r ^^^ 0xFF#8 :=
  s.result8_reg8_same r _ 1

theorem State.not8_Z_iff (r : Reg8) : (s.not8 r).F.Z = true ↔ ((s.not8 r).reg8 r).toNat = 0 :=
  s.result8_Z_iff r _ 1

/-- The second inversion undoes the first. -/
theorem State.not8_not8 (r : Reg8) :
    ((s.not8 r).not8 r).reg8 r = s.reg8 r ∧ (((s.not8 r).not8 r).F.Z = true ↔ (s.reg8 r).toNat = 0) := by
  have hreg : ((s.not8 r).not8 r).reg8 r = s.reg8 r := by
    rw [State.not8_reg8_same, State.not8_reg8_same, xor_cancel_right]
  exact ⟨hreg, by rw [State.not8_Z_iff, hreg]⟩

end

/-- NOTx twice: the register may be written, but is back at its value. -/
theorem execs_not8_twice {i : Instr} {part : Part} (s : State) (r : Reg8) (hexec : ∀ t, exec i t = .next (t.not8 r))
    (hparts : mayWrite i = [part, .Z, .P]) (hpart : ∀ t, part.Same s t ↔ t.reg8 r = s.reg8 r) :
    ∃ t, execs [i, i] s = .next t ∧ (t.F.Z = true ↔ (s.reg8 r).toNat = 0) ∧ ChangesOnly [.Z, .P] s t := by
  obtain ⟨hreg, hZ⟩ := s.not8_not8 r
  have hrun : execs [i, i] s = .next ((s.not8 r).not8 r) := by simp only [execs, hexec]
  have hframe : ChangesOnly [part, .Z, .P] s ((s.not8 r).not8 r) := execs_changesOnly (by simp [hparts]) hrun
  exact ⟨_, hrun, hZ, changesOnly_of_restored hframe ((hpart _).2 hreg)⟩

end Sys2Proof.Machine
end

section
/-! The statements of `42_logic_shift.md`. -/

namespace Sys2Proof.Machine

open Sys2Proof.Claims

/-- Settles O33: Z is the complement of one bit of the register's number. -/
theorem bitTestsComplementTheBitIntoZero : Obligations.BitTestsComplementTheBitIntoZero :=
  fun k hk =>
    ⟨testForm_of_tst8 .A ⟨decide_eq_true hk, opcode_add_embedded 0x44 k, rfl, rfl⟩ fun _ => rfl,
      testForm_of_tst8 .B ⟨decide_eq_true hk, opcode_add_embedded 0x4C k, rfl, rfl⟩ fun _ => rfl,
      testForm_of_tst8 .C ⟨decide_eq_true hk, opcode_add_embedded 0x54 k, rfl, rfl⟩ fun _ => rfl⟩

/-- Settles O34: each form combines the register with the operand byte or another register. -/
theorem conjunctionsWriteZero : Obligations.ConjunctionsWriteZero :=
  ⟨fun _ => andForm_of_result8 .A ⟨rfl, rfl, rfl, rfl⟩ fun _ => rfl,
    andForm_of_result8 .A ⟨rfl, rfl, rfl, rfl⟩ fun _ => rfl,
    andForm_of_result8 .A ⟨rfl, rfl, rfl, rfl⟩ fun _ => rfl,
    fun _ => andForm_of_result8 .B ⟨rfl, rfl, rfl, rfl⟩ fun _ => rfl,
    andForm_of_result8 .B ⟨rfl, rfl, rfl, rfl⟩ fun _ => rfl,
    andForm_of_result8 .B ⟨rfl, rfl, rfl, rfl⟩ fun _ => rfl,
    fun _ => andForm_of_result8 .C ⟨rfl, rfl, rfl, rfl⟩ fun _ => rfl,
    andForm_of_result8 .C ⟨rfl, rfl, rfl, rfl⟩ fun _ => rfl,
    andForm_of_result8 .C ⟨rfl, rfl, rfl, rfl⟩ fun _ => rfl⟩

/-- Settles O35: each form combines the register with the operand byte or another register. -/
theorem disjunctionsWriteZero : Obligations.DisjunctionsWriteZero :=
  ⟨fun _ => orForm_of_result8 .A ⟨rfl, rfl, rfl, rfl⟩ fun _ => rfl,
    orForm_of_result8 .A ⟨rfl, rfl, rfl, rfl⟩ fun _ => rfl,
    orForm_of_result8 .A ⟨rfl, rfl, rfl, rfl⟩ fun _ => rfl,
    fun _ => orForm_of_result8 .B ⟨rfl, rfl, rfl, rfl⟩ fun _ => rfl,
    orForm_of_result8 .B ⟨rfl, rfl, rfl, rfl⟩ fun _ => rfl,
    orForm_of_result8 .B ⟨rfl, rfl, rfl, rfl⟩ fun _ => rfl,
    fun _ => orForm_of_result8 .C ⟨rfl, rfl, rfl, rfl⟩ fun _ => rfl,
    orForm_of_result8 .C ⟨rfl, rfl, rfl, rfl⟩ fun _ => rfl,
    orForm_of_result8 .C ⟨rfl, rfl, rfl, rfl⟩ fun _ => rfl⟩

/-- Settles O36: each form combines the register with the operand byte or another register. -/
theorem exclusiveDisjunctionsWriteZero : Obligations.ExclusiveDisjunctionsWriteZero :=
  ⟨fun _ => xorForm_of_result8 .A ⟨rfl, rfl, rfl, rfl⟩ fun _ => rfl,
    xorForm_of_result8 .A ⟨rfl, rfl, rfl, rfl⟩ fun _ => rfl,
    xorForm_of_result8 .A ⟨rfl, rfl, rfl, rfl⟩ fun _ => rfl,
    fun _ => xorForm_of_result8 .B ⟨rfl, rfl, rfl, rfl⟩ fun _ => rfl,
    xorForm_of_result8 .B ⟨rfl, rfl, rfl, rfl⟩ fun _ => rfl,
    xorForm_of_result8 .B ⟨rfl, rfl, rfl, rfl⟩ fun _ => rfl,
    fun _ => xorForm_of_result8 .C ⟨rfl, rfl, rfl, rfl⟩ fun _ => rfl,
    xorForm_of_result8 .C ⟨rfl, rfl, rfl, rfl⟩ fun _ => rfl,
    xorForm_of_result8 .C ⟨rfl, rfl, rfl, rfl⟩ fun _ => rfl⟩

/-- Settles O37: an exclusive OR with `$FF` is the distance to 255, and is 0 from 255 alone. -/
theorem inversionsWriteZero : Obligations.InversionsWriteZero :=
  ⟨notForm_of_result8 .A ⟨rfl, rfl, rfl, rfl⟩ fun _ => rfl,
    notForm_of_result8 .B ⟨rfl, rfl, rfl, rfl⟩ fun _ => rfl,
    notForm_of_result8 .C ⟨rfl, rfl, rfl, rfl⟩ fun _ => rfl⟩

/-- Settles O38: a left shift by `n` multiplies by `2^n` modulo 256. -/
theorem leftShiftsWriteNoFlag : Obligations.LeftShiftsWriteNoFlag :=
  fun n hpos hmax =>
    have hwf := shiftCount_wellFormed hpos hmax
    ⟨shiftLeftForm_of_shl8 .A ⟨hwf, opcode_add_embedded 0x7A (n - 1), rfl, rfl⟩ fun _ => rfl,
      shiftLeftForm_of_shl8 .B ⟨hwf, opcode_add_embedded 0x82 (n - 1), rfl, rfl⟩ fun _ => rfl,
      shiftLeftForm_of_shl8 .C ⟨hwf, opcode_add_embedded 0x8A (n - 1), rfl, rfl⟩ fun _ => rfl⟩

/-- Settles O39: a right shift by `n` divides by `2^n`, to 0 from below `2^n` alone. -/
theorem rightShiftsWriteZero : Obligations.RightShiftsWriteZero :=
  fun n hpos hmax =>
    have hwf := shiftCount_wellFormed hpos hmax
    ⟨shiftRightForm_of_shr8 .A ⟨hwf, opcode_add_embedded 0x92 (n - 1), rfl, rfl⟩ fun _ => rfl,
      shiftRightForm_of_shr8 .B ⟨hwf, opcode_add_embedded 0x9A (n - 1), rfl, rfl⟩ fun _ => rfl,
      shiftRightForm_of_shr8 .C ⟨hwf, opcode_add_embedded 0xA2 (n - 1), rfl, rfl⟩ fun _ => rfl⟩

/-- Settles O58: the pair of shifts loses the top bits of the register, a shift by 8 all of them. -/
theorem rightShiftAfterLeftShiftClearsTheTopBits : Obligations.RightShiftAfterLeftShiftClearsTheTopBits :=
  fun s _ _ hmax =>
    ⟨⟨_, rfl, s.shr8_shl8_reg8 .A hmax⟩, ⟨_, rfl, s.shr8_shl8_reg8 .B hmax⟩, ⟨_, rfl, s.shr8_shl8_reg8 .C hmax⟩,
      ⟨_, rfl, s.shl8_eight_reg8 .A⟩, ⟨_, rfl, s.shr8_eight_reg8 .A⟩,
      ⟨_, rfl, s.shl8_eight_reg8 .B⟩, ⟨_, rfl, s.shr8_eight_reg8 .B⟩,
      ⟨_, rfl, s.shl8_eight_reg8 .C⟩, ⟨_, rfl, s.shr8_eight_reg8 .C⟩⟩

/-- Settles O59: the values by cancellation of exclusive ORs, the rest by the frame of a sequence. -/
theorem threeExclusiveOrsExchange : Obligations.ThreeExclusiveOrsExchange := by
  intro s
  have hexchange : ∃ t, execs [.xoraB, .xorbA, .xoraB] s = .next t ∧ t.A = s.B ∧ t.B = s.A ∧
      (t.F.Z = true ↔ t.A.toNat = 0) ∧ ChangesOnly [.A, .B, .Z, .P] s t := by
    obtain ⟨hA, hB⟩ := s.xor8_exchange (r := .A) (q := .B) nofun
    exact ⟨((s.xor8 .A .B).xor8 .B .A).xor8 .A .B, rfl, hA, hB, State.xor8_Z_iff _ .A .B,
      execs_changesOnly (is := [.xoraB, .xorbA, .xoraB]) (by simp [mayWrite]) rfl⟩
  exact ⟨hexchange, execs_not8_twice s .A (fun _ => rfl) rfl fun _ => Iff.rfl,
    execs_not8_twice s .B (fun _ => rfl) rfl fun _ => Iff.rfl,
    execs_not8_twice s .C (fun _ => rfl) rfl fun _ => Iff.rfl⟩

end Sys2Proof.Machine
end

section
/-! SUPPORT. CMPx, the jumps, JSR and RET as forms (`43_compare_jump.md` R240, R247, R248, R276, R277): a jump is a condition
on the flags and a target, whatever the kind of its operand. -/

namespace Sys2Proof.Machine

open Sys2Proof.Claims

/-! ### CMPx -/

section

variable {i : Instr} {bytes : List Byte} {get : State → Byte} {n : State → Nat}

theorem compareForm_of_cmp8 {L : Nat} (r : Reg8) {v : State → Byte} (hi : InSequence i bytes [.G, .E, .P])
    (hexec : ∀ s, exec i s = .next (s.cmp8 r (v s) L)) :
    CompareForm i bytes (State.reg8 r) fun s => (v s).toNat :=
  hi.form hexec fun s hframe => by
    obtain ⟨-, -, hF, -⟩ := s.cmp8_spec r (v s) L
    have hG : (s.cmp8 r (v s) L).F.G = true ↔ (v s).toNat < (s.reg8 r).toNat := by
      rw [hF, Flags.withCmp_G, cmpGreater_iff]
    have hE : (s.cmp8 r (v s) L).F.E = true ↔ (s.reg8 r).toNat = (v s).toNat := by
      rw [hF, Flags.withCmp_E, cmpEqual_iff]
    exact ⟨hG, hE, hframe⟩

/-- No value is both greater than another and equal to it. -/
theorem not_greater_and_equal_of_compareForm {s t : State} (hform : CompareForm i bytes get n)
    (hexec : exec i s = .next t) : ¬ (t.F.G = true ∧ t.F.E = true) := by
  obtain ⟨-, -, hpost⟩ := hform
  obtain ⟨u, hu, hG, hE, -⟩ := hpost s
  obtain rfl : u = t := Host.Outcome.next.inj (hu.symm.trans hexec)
  rw [hG, hE]
  omega

end

/-! ### An instruction that need not go on to the next one -/

/-- What the tables say of an instruction, in sequence or not: the encoding admits it, it is spelled by `bytes`, and it may
write `parts`. -/
structure Spelled (i : Instr) (bytes : List Byte) (parts : List Part) : Prop where
  wellFormed : i.wellFormed = true
  encode_eq : encode i = bytes
  parts_eq : mayWrite i = parts

/-- A form, from what the operation does: the frame is given. -/
theorem Spelled.form {i : Instr} {bytes : List Byte} {parts : List Part} (hi : Spelled i bytes parts)
    {post : State → State → Prop}
    (hexec : ∀ s, ∃ t, exec i s = .next t ∧ (ChangesOnly parts s t → post s t)) : Form i bytes post := by
  obtain ⟨hwf, henc, rfl⟩ := hi
  refine form_of_wellFormed hwf henc fun s => ?_
  obtain ⟨t, ht, hpost⟩ := hexec s
  exact ⟨t, ht, hpost (exec_changesOnly ht)⟩

/-! ### When a jump is taken -/

/-- The condition of a conditional jump, as the statements write it (`43_compare_jump.md` R248). -/
def Cond.Taken (c : Cond) (f : Flags) : Prop :=
  match c with
  | .zero => f.Z = true
  | .notZero => f.Z = false
  | .carry => f.C = true
  | .notCarry => f.C = false
  | .equal => f.E = true
  | .notEqual => f.E = false
  | .greater => f.G = true
  | .less => f.G = false ∧ f.E = false

theorem Cond.holds_iff_taken (c : Cond) (f : Flags) : c.holds f = true ↔ c.Taken f := by
  cases c with
  | zero | carry | equal | greater => exact Iff.rfl
  | notZero | notCarry | notEqual => exact iff_of_eq (Bool.not_eq_true' _)
  | less => simp [Cond.holds, Cond.Taken]

/-- From every state `i` answers a next state: with P at the target when `taken` holds of the flags, else at the address
after `i`, which is `L` bytes long. -/
def JumpsWhen (i : Instr) (L : Nat) (taken : Flags → Prop) (target : State → Addr) : Prop :=
  ∀ s, ∃ t, exec i s = .next t ∧ (taken s.F → t.P = target s) ∧ (¬ taken s.F → t.P = s.nextAddr L)

section

variable {i : Instr} {L : Nat} {target : State → Addr}

theorem jumpsWhen_of_setP (hexec : ∀ s, exec i s = .next (s.setP (target s))) :
    JumpsWhen i L (fun _ => True) target :=
  fun s => ⟨_, hexec s, fun _ => rfl, fun hnot => absurd trivial hnot⟩

theorem jumpsWhen_of_jumpIf (c : Cond) (hexec : ∀ s, exec i s = .next (s.jumpIf c (target s) L)) :
    JumpsWhen i L c.Taken target := by
  refine fun s => ⟨_, hexec s, fun htaken => ?_, fun hnot => ?_⟩
  · rw [State.jumpIf_spec, if_pos ((c.holds_iff_taken s.F).2 htaken), State.setP_P]
  · rw [State.jumpIf_spec, if_neg (mt (c.holds_iff_taken s.F).1 hnot), State.setP_P]

end

/-! ### The targets as numbers -/

/-- A relative target as a number: the sum is taken modulo `2^24` (`43_compare_jump.md` R247). -/
theorem State.relTarget_toNat {w : Nat} (s : State) (off : BitVec w) (L : Nat) :
    ((s.relTarget off L).toNat : Int) = (s.P.toNat + L + off.toInt) % 2 ^ 24 := by
  have hoff : ((sext24 off).toNat : Int) = off.toInt % 2 ^ 24 := by
    rw [sext24, BitVec.signExtend, BitVec.toNat_ofInt, Int.toNat_of_nonneg (Int.emod_nonneg _ (by decide))]
    rfl
  rw [State.relTarget, BitVec.toNat_add, State.nextAddr_toNat]
  push_cast
  omega

theorem offset8_eq_toInt (b : Byte) : offset8 b = b.toInt := by
  rw [offset8, BitVec.toInt]
  split_ifs <;> omega

theorem offset16_eq_toInt (b1 b2 : Byte) : offset16 b1 b2 = (join16 b1 b2).toInt := by
  have hnum : (join16 b1 b2).toNat = num16 b1 b2 := join16_toNat b1 b2
  rw [offset16, BitVec.toInt, hnum]
  split_ifs <;> omega

/-! ### The jumps -/

section

variable {taken : Flags → Prop} {op : Byte}

theorem jumpForm_of_jumpsWhen {i : Instr} {bytes : List Byte} {target : State → Addr} {n : State → Int}
    (hi : Spelled i bytes [.P]) (hjump : JumpsWhen i bytes.length taken target)
    (htarget : ∀ s, ((target s).toNat : Int) = n s) : JumpForm i bytes taken n :=
  hi.form fun s => by
    obtain ⟨t, hexec, hthere, hnext⟩ := hjump s
    refine ⟨t, hexec, fun hframe => ⟨fun htaken => ?_, fun hnot => ?_, hframe⟩⟩
    · rw [hthere htaken, htarget]
    · rw [MovesOn, hnext hnot, State.nextAddr_toNat]

theorem nearJump_of_jumpsWhen {i : Byte → Instr} (hi : ∀ off, Spelled (i off) [op, off] [.P])
    (hjump : ∀ off, JumpsWhen (i off) 2 taken (State.relTarget off 2)) : NearJump i op taken :=
  fun b1 => jumpForm_of_jumpsWhen (hi b1) (hjump b1) fun s => by
    rw [State.relTarget_toNat, offset8_eq_toInt]
    rfl

theorem farJump_of_jumpsWhen {i : Word16 → Instr} (hi : ∀ off, Spelled (i off) (encodeTwo op off) [.P])
    (hjump : ∀ off, JumpsWhen (i off) 3 taken (State.relTarget off 3)) : FarJump i op taken := by
  intro b1 b2
  have hspelled := hi (join16 b1 b2)
  rw [encodeTwo_join16] at hspelled
  refine jumpForm_of_jumpsWhen hspelled (hjump (join16 b1 b2)) fun s => ?_
  rw [State.relTarget_toNat, offset16_eq_toInt]
  rfl

theorem absJump_of_jumpsWhen {i : Addr → Instr} (hi : ∀ a, Spelled (i a) (encodeThree op a) [.P])
    (hjump : ∀ a, JumpsWhen (i a) 4 taken fun _ => absTarget a) : AbsJump i op taken := by
  intro b1 b2 b3
  have hspelled := hi (join24 b1 b2 b3)
  rw [encodeThree_join24] at hspelled
  exact jumpForm_of_jumpsWhen hspelled (hjump (join24 b1 b2 b3)) fun _ => congrArg Nat.cast (join24_toNat b1 b2 b3)

end

/-! ### Greater, equal, less -/

section

variable {L : Nat} {t : State}

/-- One of the jumps is taken and the others are not. -/
theorem exactlyOneJumps_of_taken {js : List Instr} {j : Instr} (hmem : j ∈ js)
    {target : Addr} (hthere : ∃ u, exec j t = .next u ∧ u.P = target)
    (hnext : ∀ k ∈ js, k ≠ j → ∃ u, exec k t = .next u ∧ u.P = t.nextAddr L) :
    ExactlyOneJumps js target L t := by
  refine fun htarget => ⟨j, hmem, fun k hk => ?_⟩
  by_cases hkj : k = j
  · obtain ⟨u, hexec, hP⟩ := hthere
    exact ⟨u, hkj ▸ hexec, by simp [hkj, hP], fun hne => absurd hkj hne⟩
  · obtain ⟨u, hexec, hP⟩ := hnext k hk hkj
    exact ⟨u, hexec, by simp [hkj, hP, htarget.symm], fun _ => hP⟩

/-- The conditions greater, equal and less where the flags do not say both greater and equal (`43_compare_jump.md` R248). -/
theorem Cond.greater_equal_less_trichotomy {f : Flags} (h : ¬ (f.G = true ∧ f.E = true)) :
    (Cond.greater.Taken f ∧ ¬ Cond.equal.Taken f ∧ ¬ Cond.less.Taken f) ∨
      (¬ Cond.greater.Taken f ∧ Cond.equal.Taken f ∧ ¬ Cond.less.Taken f) ∨
      (¬ Cond.greater.Taken f ∧ ¬ Cond.equal.Taken f ∧ Cond.less.Taken f) := by
  by_cases hG : f.G = true
  · have hE : f.E = false := Bool.eq_false_iff.2 fun hE => h ⟨hG, hE⟩
    simp [Cond.Taken, hG, hE]
  · by_cases hE : f.E = true <;> simp [Cond.Taken, hG, hE]

theorem exactlyOneJumps_of_jumpIf {jg je jl : Instr} (target : State → Addr)
    (hflags : ¬ (t.F.G = true ∧ t.F.E = true)) (hg : ∀ s, exec jg s = .next (s.jumpIf .greater (target s) L))
    (he : ∀ s, exec je s = .next (s.jumpIf .equal (target s) L))
    (hl : ∀ s, exec jl s = .next (s.jumpIf .less (target s) L)) : ExactlyOneJumps [jg, je, jl] (target t) L t := by
  obtain ⟨ug, hexecg, hthereg, hnextg⟩ := jumpsWhen_of_jumpIf .greater hg t
  obtain ⟨ue, hexece, htheree, hnexte⟩ := jumpsWhen_of_jumpIf .equal he t
  obtain ⟨ul, hexecl, htherel, hnextl⟩ := jumpsWhen_of_jumpIf .less hl t
  rcases Cond.greater_equal_less_trichotomy hflags with ⟨hG, hE, hL⟩ | ⟨hG, hE, hL⟩ | ⟨hG, hE, hL⟩
  · exact exactlyOneJumps_of_taken (j := jg) (by simp) ⟨ug, hexecg, hthereg hG⟩
      (by simp [hexece, hexecl, hnexte hE, hnextl hL])
  · exact exactlyOneJumps_of_taken (j := je) (by simp) ⟨ue, hexece, htheree hE⟩
      (by simp [hexecg, hexecl, hnextg hG, hnextl hL])
  · exact exactlyOneJumps_of_taken (j := jl) (by simp) ⟨ul, hexecl, htherel hL⟩
      (by simp [hexecg, hexece, hnextg hG, hnexte hE])

end

/-! ### JSR, RET -/

section

variable (s : State)

/-- A push of three bytes, as the statements write it (`20_memory.md` R47). -/
theorem State.pushed24_push24 (w : Addr) : Pushed24 w.toNat s (s.push24 w) := by
  have hT : (s.push24 w).T.toNat = (s.T.toNat + 3) % 4096 := by rw [State.push24_T, BitVec.toNat_add]; rfl
  refine ⟨?_, ?_, ?_, fun a h0 h1 h2 => s.push24_memRead_other w a (by simp [h0, h1, h2]), hT⟩ <;>
    simp [State.push24_memRead, State.stackAddr_inj, byteOf24_toNat]

theorem State.pop24_toNat : s.pop24.1.toNat = top24 s := by
  rw [State.pop24_fst, join24_toNat, top24, num24]

/-- JSR then RET: the popped P is the pushed one, whatever P is in between. -/
theorem State.pop24_setP_push24 (w a : Addr) : ((s.push24 w).setP a).pop24.1 = w :=
  s.pop24_pushWord w

end

/-- A sequence that leaves T where it was, of instructions that write memory, T and P alone. -/
theorem execs_changesOnly_mem_P {is : List Instr} {s t : State} (hparts : ∀ i ∈ is, mayWrite i ⊆ [.T, .mem, .P])
    (hexecs : execs is s = .next t) (hT : t.T = s.T) : ChangesOnly [.mem, .P] s t :=
  changesOnly_of_restored (execs_changesOnly hparts hexecs) hT

end Sys2Proof.Machine
end

section
/-! The statements of `43_compare_jump.md`. -/

namespace Sys2Proof.Machine

open Sys2Proof.Claims

/-- Settles O40: each form compares its register with the operand byte or another register. -/
theorem comparesWriteGreaterAndEqual : Obligations.ComparesWriteGreaterAndEqual :=
  ⟨fun b1 => compareForm_of_cmp8 .A (v := fun _ => b1) ⟨rfl, rfl, rfl, rfl⟩ fun _ => rfl,
    compareForm_of_cmp8 .A (v := State.B) ⟨rfl, rfl, rfl, rfl⟩ fun _ => rfl,
    compareForm_of_cmp8 .A (v := State.C) ⟨rfl, rfl, rfl, rfl⟩ fun _ => rfl,
    fun b1 => compareForm_of_cmp8 .B (v := fun _ => b1) ⟨rfl, rfl, rfl, rfl⟩ fun _ => rfl,
    compareForm_of_cmp8 .B (v := State.C) ⟨rfl, rfl, rfl, rfl⟩ fun _ => rfl,
    fun b1 => compareForm_of_cmp8 .C (v := fun _ => b1) ⟨rfl, rfl, rfl, rfl⟩ fun _ => rfl⟩

/-- Settles O41: each form jumps on its condition; the operand byte is the offset in two's complement. -/
theorem nearJumps : Obligations.NearJumps :=
  ⟨nearJump_of_jumpsWhen (fun _ => ⟨rfl, rfl, rfl⟩) fun _ => jumpsWhen_of_setP fun _ => rfl,
    nearJump_of_jumpsWhen (fun _ => ⟨rfl, rfl, rfl⟩) fun _ => jumpsWhen_of_jumpIf .zero fun _ => rfl,
    nearJump_of_jumpsWhen (fun _ => ⟨rfl, rfl, rfl⟩) fun _ => jumpsWhen_of_jumpIf .notZero fun _ => rfl,
    nearJump_of_jumpsWhen (fun _ => ⟨rfl, rfl, rfl⟩) fun _ => jumpsWhen_of_jumpIf .carry fun _ => rfl,
    nearJump_of_jumpsWhen (fun _ => ⟨rfl, rfl, rfl⟩) fun _ => jumpsWhen_of_jumpIf .notCarry fun _ => rfl,
    nearJump_of_jumpsWhen (fun _ => ⟨rfl, rfl, rfl⟩) fun _ => jumpsWhen_of_jumpIf .equal fun _ => rfl,
    nearJump_of_jumpsWhen (fun _ => ⟨rfl, rfl, rfl⟩) fun _ => jumpsWhen_of_jumpIf .notEqual fun _ => rfl,
    nearJump_of_jumpsWhen (fun _ => ⟨rfl, rfl, rfl⟩) fun _ => jumpsWhen_of_jumpIf .greater fun _ => rfl,
    nearJump_of_jumpsWhen (fun _ => ⟨rfl, rfl, rfl⟩) fun _ => jumpsWhen_of_jumpIf .less fun _ => rfl⟩

/-- Settles O42: each form jumps on its condition; the two operand bytes join to the offset in two's complement. -/
theorem farJumps : Obligations.FarJumps :=
  ⟨farJump_of_jumpsWhen (fun _ => ⟨rfl, rfl, rfl⟩) fun _ => jumpsWhen_of_setP fun _ => rfl,
    farJump_of_jumpsWhen (fun _ => ⟨rfl, rfl, rfl⟩) fun _ => jumpsWhen_of_jumpIf .zero fun _ => rfl,
    farJump_of_jumpsWhen (fun _ => ⟨rfl, rfl, rfl⟩) fun _ => jumpsWhen_of_jumpIf .notZero fun _ => rfl,
    farJump_of_jumpsWhen (fun _ => ⟨rfl, rfl, rfl⟩) fun _ => jumpsWhen_of_jumpIf .carry fun _ => rfl,
    farJump_of_jumpsWhen (fun _ => ⟨rfl, rfl, rfl⟩) fun _ => jumpsWhen_of_jumpIf .notCarry fun _ => rfl,
    farJump_of_jumpsWhen (fun _ => ⟨rfl, rfl, rfl⟩) fun _ => jumpsWhen_of_jumpIf .equal fun _ => rfl,
    farJump_of_jumpsWhen (fun _ => ⟨rfl, rfl, rfl⟩) fun _ => jumpsWhen_of_jumpIf .notEqual fun _ => rfl,
    farJump_of_jumpsWhen (fun _ => ⟨rfl, rfl, rfl⟩) fun _ => jumpsWhen_of_jumpIf .greater fun _ => rfl,
    farJump_of_jumpsWhen (fun _ => ⟨rfl, rfl, rfl⟩) fun _ => jumpsWhen_of_jumpIf .less fun _ => rfl⟩

/-- Settles O43: each form jumps on its condition; the three operand bytes join to the target. -/
theorem absoluteJumps : Obligations.AbsoluteJumps :=
  ⟨absJump_of_jumpsWhen (fun _ => ⟨rfl, rfl, rfl⟩) fun _ => jumpsWhen_of_setP fun _ => rfl,
    absJump_of_jumpsWhen (fun _ => ⟨rfl, rfl, rfl⟩) fun _ => jumpsWhen_of_jumpIf .zero fun _ => rfl,
    absJump_of_jumpsWhen (fun _ => ⟨rfl, rfl, rfl⟩) fun _ => jumpsWhen_of_jumpIf .notZero fun _ => rfl,
    absJump_of_jumpsWhen (fun _ => ⟨rfl, rfl, rfl⟩) fun _ => jumpsWhen_of_jumpIf .carry fun _ => rfl,
    absJump_of_jumpsWhen (fun _ => ⟨rfl, rfl, rfl⟩) fun _ => jumpsWhen_of_jumpIf .notCarry fun _ => rfl,
    absJump_of_jumpsWhen (fun _ => ⟨rfl, rfl, rfl⟩) fun _ => jumpsWhen_of_jumpIf .equal fun _ => rfl,
    absJump_of_jumpsWhen (fun _ => ⟨rfl, rfl, rfl⟩) fun _ => jumpsWhen_of_jumpIf .notEqual fun _ => rfl,
    absJump_of_jumpsWhen (fun _ => ⟨rfl, rfl, rfl⟩) fun _ => jumpsWhen_of_jumpIf .greater fun _ => rfl,
    absJump_of_jumpsWhen (fun _ => ⟨rfl, rfl, rfl⟩) fun _ => jumpsWhen_of_jumpIf .less fun _ => rfl⟩

/-- Settles O44: JSR is a push of the next address, then the jump. -/
theorem callPushesTheReturnAddress : Obligations.CallPushesTheReturnAddress := by
  intro b1 b2 b3
  have hspelled : Spelled (.jsr (join24 b1 b2 b3)) [0xCB#8, b1, b2, b3] [.mem, .T, .P] :=
    ⟨rfl, encodeThree_join24 0xCB#8 b1 b2 b3, rfl⟩
  refine hspelled.form fun s => ?_
  have hpushed : Pushed24 ((s.P.toNat + 4) % 2 ^ 24) s (s.push24 (s.nextAddr 4)) :=
    s.nextAddr_toNat 4 ▸ s.pushed24_push24 (s.nextAddr 4)
  exact ⟨_, rfl, fun hframe => ⟨hpushed, join24_toNat b1 b2 b3, hframe⟩⟩

/-- Settles O45: RET is a pop of three bytes into P. -/
theorem returnPopsTheProgramPointer : Obligations.ReturnPopsTheProgramPointer := by
  refine Spelled.form (parts := [.T, .P]) ⟨rfl, rfl, rfl⟩ fun s => ?_
  have hT : (s.pop24.2.setP s.pop24.1).T.toNat = (s.T.toNat + 4093) % 4096 := by
    rw [State.setP_T, State.pop24_snd, State.setT_T, BitVec.toNat_sub, Nat.add_comm]
    rfl
  exact ⟨_, rfl, fun hframe => ⟨s.pop24_toNat, hT, hframe⟩⟩

/-- Settles O55: what RET pops is what JSR or the three pushes stored, and T is back where it was. -/
theorem callThenReturnComesBack : Obligations.CallThenReturnComesBack := by
  intro s a24 b1 b2 b3
  refine ⟨⟨_, rfl, ?_, execs_changesOnly_mem_P (is := [.jsr a24, .ret]) (by simp [mayWrite]) rfl ?_⟩,
    ⟨_, rfl, ?_, execs_changesOnly_mem_P (is := [.push b1, .push b2, .push b3, .ret]) (by simp [mayWrite]) rfl ?_⟩⟩
  · rw [MovesOn, State.setP_P, State.pop24_setP_push24, State.nextAddr_toNat]
  · simp
  · rw [State.setP_P, State.pushByte_thrice_pop24, join24_toNat, num24]
  · simp [BitVec.add_assoc]

/-- Settles O57: no compare leaves both greater and equal, so one of the three conditions holds. -/
theorem afterACompareExactlyOneOfGreaterEqualLessJumps :
    Obligations.AfterACompareExactlyOneOfGreaterEqualLessJumps := by
  intro s t v i hi hexec
  have hflags : ¬ (t.F.G = true ∧ t.F.E = true) := by
    obtain ⟨hAi, hAB, hAC, hBi, hBC, hCi⟩ := comparesWriteGreaterAndEqual
    simp only [List.mem_cons, List.not_mem_nil, or_false] at hi
    rcases hi with rfl | rfl | rfl | rfl | rfl | rfl
    · exact not_greater_and_equal_of_compareForm (hAi v) hexec
    · exact not_greater_and_equal_of_compareForm hAB hexec
    · exact not_greater_and_equal_of_compareForm hAC hexec
    · exact not_greater_and_equal_of_compareForm (hBi v) hexec
    · exact not_greater_and_equal_of_compareForm hBC hexec
    · exact not_greater_and_equal_of_compareForm (hCi v) hexec
  exact ⟨fun off => exactlyOneJumps_of_jumpIf (State.relTarget off 2) hflags (fun _ => rfl) (fun _ => rfl) fun _ => rfl,
    fun off => exactlyOneJumps_of_jumpIf (State.relTarget off 3) hflags (fun _ => rfl) (fun _ => rfl) fun _ => rfl,
    fun a => exactlyOneJumps_of_jumpIf (fun _ => absTarget a) hflags (fun _ => rfl) (fun _ => rfl) fun _ => rfl⟩

end Sys2Proof.Machine
end

section
/-! SUPPORT. The pushes, the pops and the flag clears as forms (`44_stack_flags_system.md` R290, R298, R304, R305): each goes
on to the next instruction, and differs from the others of its kind only in the value, the register or the flag. -/

namespace Sys2Proof.Machine

open Sys2Proof.Claims

/-! ### T as a number -/

/-- `k` positions down, modulo 4096 (`20_memory.md` R48). -/
theorem toNat_sub_stackPos (t k : StackPos) : (t - k).toNat = (t.toNat + (4096 - k.toNat)) % 4096 := by
  rw [BitVec.toNat_sub, Nat.add_comm]

section

variable {i : Instr} {bytes : List Byte} {part : Part}

/-! ### PUSHx -/

theorem pushForm_of_pushByte {v : State → Byte} {L : Nat} (hi : InSequence i bytes [.mem, .T, .P])
    (hexec : ∀ s, exec i s = .next (s.pushByte (v s) L)) : PushForm i bytes v :=
  hi.form hexec fun s hframe => by
    have hthere : (s.pushByte (v s) L).memRead (s.stackAddr s.T) = v s := by rw [State.pushByte_memRead, if_pos rfl]
    have helsewhere (a : Addr) (ha : a ≠ s.stackAddr s.T) : (s.pushByte (v s) L).memRead a = s.memRead a := by
      rw [State.pushByte_memRead, if_neg ha]
    exact ⟨hthere, helsewhere, BitVec.toNat_add s.T 1#12, hframe⟩

/-- A push of three bytes leaves memory and T as `Push24` does: moving P on changes neither. -/
theorem State.pushed24_pushWord (s : State) (w : Addr) : Pushed24 w.toNat s (s.pushWord w) :=
  s.pushed24_push24 w

theorem pushWideForm_of_pushWord {w : State → Addr} {n : State → Nat} (hi : InSequence i bytes [.mem, .T, .P])
    (hexec : ∀ s, exec i s = .next (s.pushWord (w s))) (hw : ∀ s, (w s).toNat = n s) : PushWideForm i bytes n :=
  hi.form hexec fun s hframe => ⟨hw s ▸ s.pushed24_pushWord (w s), hframe⟩

/-! ### POPx -/

theorem popForm_of_popReg8 (r : Reg8) (hi : InSequence i bytes [part, .T, .P])
    (hexec : ∀ s, exec i s = .next (s.popReg8 r)) : PopForm i bytes (State.reg8 r) part :=
  hi.form hexec fun s hframe => by
    obtain ⟨hreg, -⟩ := s.popReg8_spec r
    rw [State.popReg8_T]
    exact ⟨hreg, toNat_sub_stackPos s.T 1#12, hframe⟩

theorem popWideForm_of_popReg24 (r : Reg24) (hi : InSequence i bytes [part, .T, .P])
    (hexec : ∀ s, exec i s = .next (s.popReg24 r)) : PopWideForm i bytes (State.reg24 r) part :=
  hi.form hexec fun s hframe => by
    obtain ⟨hreg, -⟩ := s.popReg24_spec r
    rw [hreg, State.popReg24_T]
    exact ⟨s.pop24_toNat, toNat_sub_stackPos s.T 3#12, hframe⟩

/-! ### CLx -/

theorem clearForm_of_setFlags {flag : Flags → Bool} {f : State → Flags} {L : Nat} (hi : InSequence i bytes [part, .P])
    (hexec : ∀ s, exec i s = .next ((s.setFlags (f s)).advance L)) (hflag : ∀ s, flag (f s) = false) :
    ClearForm i bytes flag part :=
  hi.form hexec fun s hframe => ⟨hflag s, hframe⟩

end

end Sys2Proof.Machine
end

section
/-! The statements of `44_stack_flags_system.md`. -/

namespace Sys2Proof.Machine

open Sys2Proof.Claims

/-- Settles O46: the four byte forms push a register or the operand, the three wide ones S, D or the next address. -/
theorem pushesStoreThenIncrement : Obligations.PushesStoreThenIncrement :=
  ⟨pushForm_of_pushByte ⟨rfl, rfl, rfl, rfl⟩ fun _ => rfl,
    pushForm_of_pushByte ⟨rfl, rfl, rfl, rfl⟩ fun _ => rfl,
    pushForm_of_pushByte ⟨rfl, rfl, rfl, rfl⟩ fun _ => rfl,
    fun _ => pushForm_of_pushByte ⟨rfl, rfl, rfl, rfl⟩ fun _ => rfl,
    pushWideForm_of_pushWord (w := State.S) ⟨rfl, rfl, rfl, rfl⟩ (fun _ => rfl) fun _ => rfl,
    pushWideForm_of_pushWord (w := State.D) ⟨rfl, rfl, rfl, rfl⟩ (fun _ => rfl) fun _ => rfl,
    pushWideForm_of_pushWord (w := State.nextAddr 1) ⟨rfl, rfl, rfl, rfl⟩ (fun _ => rfl) fun s => s.nextAddr_toNat 1⟩

/-- Settles O47: three pops into a general register, two into an address register. -/
theorem popsDecrementThenRead : Obligations.PopsDecrementThenRead :=
  ⟨popForm_of_popReg8 .A ⟨rfl, rfl, rfl, rfl⟩ fun _ => rfl,
    popForm_of_popReg8 .B ⟨rfl, rfl, rfl, rfl⟩ fun _ => rfl,
    popForm_of_popReg8 .C ⟨rfl, rfl, rfl, rfl⟩ fun _ => rfl,
    popWideForm_of_popReg24 .S ⟨rfl, rfl, rfl, rfl⟩ fun _ => rfl,
    popWideForm_of_popReg24 .D ⟨rfl, rfl, rfl, rfl⟩ fun _ => rfl⟩

/-- Settles O48: the byte is read before it is stored, so the two places may be the same. -/
theorem popToMemoryStoresAtDestination : Obligations.PopToMemoryStoresAtDestination := by
  refine InSequence.form (parts := [.mem, .T, .P]) ⟨rfl, rfl, rfl, rfl⟩ (fun _ => rfl) fun s hframe => ?_
  obtain ⟨-, -, -, -, hT, -⟩ := s.popMem_spec
  have hthere : s.popMem.memRead s.destAddr = s.memRead (s.stackAddr (s.T - 1#12)) := by
    rw [State.popMem_memRead, if_pos rfl, State.pop8_fst]
  have helsewhere (a : Addr) (ha : a ≠ s.destAddr) : s.popMem.memRead a = s.memRead a := by
    rw [State.popMem_memRead, if_neg ha]
  rw [hT]
  exact ⟨hthere, rfl, helsewhere, toNat_sub_stackPos s.T 1#12, hframe⟩

/-- Settles O49: four forms replace one flag, CLF all of them. -/
theorem flagClears : Obligations.FlagClears :=
  ⟨clearForm_of_setFlags ⟨rfl, rfl, rfl, rfl⟩ (fun _ => rfl) fun _ => rfl,
    clearForm_of_setFlags ⟨rfl, rfl, rfl, rfl⟩ (fun _ => rfl) fun _ => rfl,
    clearForm_of_setFlags ⟨rfl, rfl, rfl, rfl⟩ (fun _ => rfl) fun _ => rfl,
    clearForm_of_setFlags ⟨rfl, rfl, rfl, rfl⟩ (fun _ => rfl) fun _ => rfl,
    InSequence.form ⟨rfl, rfl, rfl, rfl⟩ (fun _ => rfl) fun _ hframe => ⟨rfl, rfl, rfl, rfl, hframe⟩⟩

/-- Settles O50: RST is a jump to the reset vector. -/
theorem softResetOnlySetsTheProgramPointer : Obligations.SoftResetOnlySetsTheProgramPointer :=
  Spelled.form ⟨rfl, rfl, rfl⟩ fun s => ⟨s.setP Config.resetVector, rfl, fun hframe => ⟨rfl, hframe⟩⟩

/-- Settles O51: HTL stays in sequence, so P moves on as for NOP. -/
theorem haltMovesOnAndHalts : Obligations.HaltMovesOnAndHalts :=
  InSequence.form ⟨rfl, rfl, rfl, rfl⟩ (fun _ => rfl) fun s hframe => ⟨(s.advance 1).halt_run, hframe⟩

end Sys2Proof.Machine
end

section
/-! SUPPORT. A number of steps from what the first step answers (`60_exceptions.md` R321, R325). -/

namespace Sys2Proof.Machine

open Sys2Proof.Claims

variable {s t : State} {r : Fault}

/-- After a step that answers a next state the other steps go on from there. -/
theorem steps_succ_of_next (h : step s = .next t) (k : Nat) : steps (k + 1) s = steps k t := by
  rw [steps, h]

/-- A fault in the first step ends the run. -/
theorem steps_succ_of_fault (h : step s = .fault r) (k : Nat) : steps (k + 1) s = .fault r := by
  rw [steps, h]

/-- A state that a step leaves as it is, is left so by any number of steps. -/
theorem steps_of_step_eq_self (h : step s = .next s) (k : Nat) : steps k s = .next s := by
  induction k with
  | zero => rfl
  | succ k ih => rw [steps_succ_of_next h, ih]

end Sys2Proof.Machine
end

section
/-! The statements of `60_exceptions.md`. -/

namespace Sys2Proof.Machine

open Sys2Proof.Claims

/-- Settles O12: every instruction is a set of writes, and writes cannot fail. -/
theorem noInstructionFails : Obligations.NoInstructionFails := by
  intro i s
  obtain ⟨w, hw⟩ := exec_writes i s
  exact ⟨w.apply s, hw.exec_eq⟩

/-- Settles O11, by run state: a running machine executes what it fetches, which cannot fail. -/
theorem onlyAFaultedMachineStops : Obligations.OnlyAFaultedMachineStops := by
  intro s
  cases hrun : s.run with
  | running =>
    obtain ⟨t, hexec⟩ := noInstructionFails s.fetch s
    exact .inl ⟨t, (step_of_running s hrun).trans hexec, by simp [State.GoneWrong, hrun]⟩
  | halted => exact .inl ⟨s, step_of_halted s hrun, by simp [State.GoneWrong, hrun]⟩
  | faulted op addr => exact .inr ⟨op, addr, rfl, step_of_faulted s op addr hrun⟩

/-- Settles O14: a step leaves a halted machine as it is, and the first step of a faulted one is its fault. -/
theorem haltedStaysAndFaultedStops : Obligations.HaltedStaysAndFaultedStops :=
  ⟨fun s k hhalted => steps_of_step_eq_self (step_of_halted s hhalted) k,
    fun s k op addr hfaulted => steps_succ_of_fault (step_of_faulted s op addr hfaulted) k⟩

end Sys2Proof.Machine
end

section
/-! SUPPORT. The source's cycle figure as a function of the opcode byte and the byte count (`70_reset_and_hazards.md` R358). -/

namespace Sys2Proof

/-- What the decoder reads is spelled with the first byte it was given. -/
theorem encode_eq_cons_of_decode {op : Byte} {tail rest : List Byte} {i : Instr}
    (h : decode (op :: tail) = .ok (i, rest)) : ∃ operands, encode i = op :: operands := by
  obtain ⟨op', tail', hbytes, -, rfl, -⟩ := decode_eq_ok h
  obtain ⟨rfl, -⟩ := List.cons.inj hbytes
  exact ⟨_, encode_rowOf_instr op _⟩

end Sys2Proof

namespace Sys2Proof.Machine

/-- The byte count is the number of bytes the decoder consumed. -/
theorem byteCount_of_decode {bytes rest : List Byte} {i : Instr} (h : decode bytes = .ok (i, rest)) :
    byteCount i = bytes.length - rest.length := by
  obtain ⟨-, rfl⟩ := encode_decode h
  rw [byteCount, List.length_append, Nat.add_sub_cancel]

/-- The "Cycles" figure of a defined opcode byte whose form is `bytes` bytes long. -/
def tableCycles (op : Byte) (bytes : Nat) : Nat :=
  if op = 0xCB#8 ∨ op = 0xCC#8 then 7
  else if op = 0xD0#8 ∨ op = 0xD1#8 ∨ op = 0xD2#8 ∨ op = 0xD7#8 ∨ op = 0xD8#8 then 4
  else bytes

/-- A form with an operand in its opcode byte has none of the starred bytes, since that operand is small (`30_encoding.md` R77,
R78); every other defined form has one opcode byte. -/
theorem cycleCount_eq_tableCycles {i : Instr} (hwf : i.wellFormed = true) (hdef : ∀ op, i ≠ .undefined op) :
    cycleCount i = some (tableCycles ((encode i).headD 0) (byteCount i)) := by
  cases i with
  | tsta ib | tstb ib | tstc ib =>
    have hib : ib ≤ 7 := of_decide_eq_true hwf
    interval_cases ib <;> rfl
  | shla n | shlb n | shlc n | shra n | shrb n | shrc n =>
    obtain ⟨hge, hle⟩ := Bool.and_eq_true_iff.1 hwf
    have hpos : 1 ≤ n := of_decide_eq_true hge
    have hmax : n ≤ 8 := of_decide_eq_true hle
    interval_cases n <;> rfl
  | undefined op => exact absurd rfl (hdef op)
  | _ => rfl

end Sys2Proof.Machine
end

section
/-! The statements of `70_reset_and_hazards.md`. -/

namespace Sys2Proof.Machine

/-- Settles O21: the opcode byte read is the one the instruction is spelled with, and a byte below `$E1` is defined. -/
theorem cycleCountsFollowTheTable : Obligations.CycleCountsFollowTheTable := by
  intro b0 b1 b2 b3 i rest hb0 hdecode
  obtain ⟨hwf, -⟩ := encode_decode hdecode
  obtain ⟨operands, hspelled⟩ := encode_eq_cons_of_decode hdecode
  have hdef : ∀ op, i ≠ .undefined op := fun op hi =>
    absurd ((decode_undefined_iff hdecode op).1 hi).2 (Nat.not_le_of_lt hb0)
  have hcycles := cycleCount_eq_tableCycles hwf hdef
  rw [hspelled, byteCount_of_decode hdecode] at hcycles
  exact hcycles

/-- Settles O8: each field is the one the reset state is written with, and its list of written bytes is empty. -/
theorem resetStartsAtTheVectorWithAnEmptyStack : Obligations.ResetStartsAtTheVectorWithAnEmptyStack :=
  ⟨rfl, rfl, rfl, fun _ => rfl⟩

end Sys2Proof.Machine
end
